-- ==== Sys2Proof/Word.lean ====
section
/-! DEFINITION. The plain number types of the part: bytes, two-byte fields, node serials and the index types of its tables. -/

namespace Sys2Proof

/-- One byte on the host link or the allocator bus. -/
abbrev Byte := BitVec 8

/-- A two-byte field. The wrapping 16-bit numbers (settlement, collection, cycle, round and events read numbers) are of this type. -/
abbrev Word16 := BitVec 16

/-- The 32-bit serial of a node (R121). -/
abbrev Serial := BitVec 32

/-- Accounts 0 to 127; 0 is the house account (R1). -/
abbrev AccountNo := Fin 128

/-- Zones 0 to 15 (R6). -/
abbrev ZoneNo := Fin 16

/-- Heat meter channels, and the pulse inputs of the same numbers, 0 to 7 (R62, R86). -/
abbrev ChannelNo := Fin 8

/-- Sensors 0 to 15: channel c has flow sensor 2c and return sensor 2c+1 (R103). -/
abbrev SensorNo := Fin 16

/-- Tariff bands 0 to 3 (R21). -/
abbrev BandNo := Fin 4

/-- Entries of the Point Assignment Table, 0 to 63 (R164). -/
abbrev PointNo := Fin 64

end Sys2Proof
end

