-- ==== Sys2Proof/Config.lean ====
section
/-! DEFINITION. What the part fixes and the spec does not state: free values, opaque so that no proof can see what they are. -/

namespace Sys2Proof.Config

/-- The part code in the reply to IDENTIFY, "fixed in the part" (R180). The spec gives no value: log 8. -/
opaque partCode : Nat

/-- The hardware revision number in the reply to IDENTIFY, "fixed in the part" (R180). The spec gives no value: log 8. -/
opaque hardwareRevision : Nat

/-- How many bytes the part code takes in the reply to IDENTIFY. Log 8. -/
opaque partCodeWidth : Nat

/-- How many bytes the hardware revision number takes in the reply to IDENTIFY. Log 8. -/
opaque hardwareRevisionWidth : Nat

/-- How many bit times have passed, since the last bus event or the last record, when a bus status record is formed (R123).
The moment at which a request comes is the host's; the argument counts the records formed, so every one has a fresh value. Log 6. -/
opaque busTimeSinceEvent : Nat → Nat

/-- Whether an attempt or wait that ends exactly as the budget runs out has overrun it (R126 and R129 leave the tie open). Log 7. -/
opaque exactEndOverruns : Bool

/-- The bytes, as a number, that stand for an absent field of a reply whose layout is not tabled (R180 ff.); the argument tells the fields apart. Log 9. -/
opaque absentField : Nat → Nat

end Sys2Proof.Config
end

