-- ==== Sys2Proof/Syntax.lean ====
section
/-! DEFINITION. The commands: one constructor per row of spec/opcode_table.json. A host request carries the fields of its body at the
widths of the catalogue (R178, section 9.4); an event carries what the outside world decides (a level, a count, a frame). -/

namespace Sys2Proof

/-- The level of a pulse contact (R88). -/
inductive Level where
  | low
  | high
  deriving DecidableEq, Repr

/-- What one tick of an input meets: the contact's level (R88), and whether the EIN takes a pulse found at the tick before any other command
comes, or finds it in the handover later (R70, R92, log 4). -/
structure Sample where
  level  : Level
  atOnce : Bool
  deriving DecidableEq, Repr

/-- One entry of a SETTLE body (R15, R179). `timing` is the raw code; `standing` is present with terms STANDING or BOTH,
`energies` (bands 0 to 3) with ENERGIES or BOTH. -/
structure SettleEntry where
  zone     : Byte
  timing   : Byte
  standing : Option (BitVec 40)
  energies : Option (Vector (BitVec 40) 4)
  deriving DecidableEq, Repr

/-- A SETTLE body as LINK's walk finds it (R179): entries that end exactly at its end and agree with its count byte,
or a body without such a layout. -/
inductive SettleBody where
  | entries (es : List SettleEntry)
  | malformed (length : Nat)
  deriving DecidableEq, Repr

/-- Why a host frame is abandoned (R172). -/
inductive BadFrameCause where
  | badLength
  | framingError
  | earlyIdle
  | crcMismatch
  deriving DecidableEq, Repr

/-- One byte received on the allocator bus: its data, its parity bit and whether its stop bit stood at the mark level (R118). -/
structure BusByte where
  data   : Byte
  parity : Bool
  stop   : Bool
  deriving DecidableEq, Repr

/-- The commands of the part. -/
inductive Instr where
  -- General requests (section 9.4)
  | identify
  | readEvents (selector : Byte)
  | setEventMask (mask : Word16)
  -- Channels and converter
  | configureChannel (channel mode zone : Byte) (pulseValue k minDT fallbackDT minPeriod noFlowLimit : Word16) (filter edge : Byte)
  | startChannel (channel : Byte)
  | pauseChannel (channel : Byte)
  | resumeChannel (channel : Byte)
  | stopChannel (channel : Byte)
  | readChannel (channel : Byte)
  | configureConverter (gateLength : Word16) (holdLimit : Byte)
  | setCalibration (sensor : Byte) (a : Word16) (b : BitVec 32)
  | readSensor (sensor : Byte)
  -- Zones, accounts and tariff
  | defineZone (zone mode : Byte) (fixedShare : Word16) (external : Byte)
  | deleteZone (zone : Byte)
  | addMember (zone account : Byte) (area : Word16)
  | removeMember (zone account : Byte)
  | readZone (zone first : Byte)
  | openAccount (account : Byte)
  | vacateAccount (account : Byte)
  | freeAccount (account : Byte)
  | setPrices (mode : Byte) (p0 p1 p2 p3 : Word16)
  | setBand (band : Byte)
  -- Attribution
  | writePoint (index : Byte) (serial : Serial) (zoneFilter kind account : Byte) (factor : Word16)
  | clearPoint (index : Byte)
  | readPoint (index : Byte)
  -- Allocator bus and nodes
  | configureBus (cycleLength guard : Word16) (retryLimit silentLimit ageLimit sweepInterval : Byte)
  | busOn
  | busOff
  | startSweep
  | readNode (selector : Byte) (key : BitVec 32)
  | releaseNode (serial : Serial) (disposition : Byte)
  | forgetNode (serial : Serial)
  -- Settlement and ledgers
  | settle (body : SettleBody)
  | readSettlement (zone : Byte)
  | peekStatement (account kind : Byte)
  | collectStatement (account : Byte)
  -- Maintenance
  | readCounters (group : Byte)
  | factoryClear
  -- Host link events
  | unknownRequest (type : Byte) (length : Nat)
  | badFrame (cause : BadFrameCause)
  | linkOverrun
  | lineIdle
  | replySent
  -- Supplies, RESET pin and starts
  | mainSupplyLoss (backupUsable : Bool)
  | mainSupplyRise
  | qualificationComplete
  | retentionLoss
  | resetAssert
  | resetRelease
  | coldStartEnd
  -- Pulse inputs
  | acceptedChange (input : ChannelNo)
  | inputSettling (input : ChannelNo)
  | noFlow (input : ChannelNo) (sample : Sample)
  -- Converter gates
  | referenceGate (count : BitVec 24)
  | gateComplete (count : BitVec 24)
  | gateOverflow
  -- Allocator bus events
  | beaconInstant
  | beaconSent
  | readTransactionStart
  | reading (delay : Fin 23) (frame : List BusByte)
  | here (delay : Fin 23) (frame : List BusByte)
  | enrolled (delay : Fin 23) (frame : List BusByte)
  | replyTimeout
  | replyWindowClose
  | attemptEnd
  -- Attribution Unit acts
  | acceptanceAct
  | missAct
  | learning
  | setExpectedToggle
  | nodeTableOpEnd (waited : Fin 6)
  -- Settlement Engine stages
  | senTakeZone
  | gather
  | fixed
  | consumption
  | area
  | standing
  | post
  | release
  -- Ticks and bytes
  | tick (input : ChannelNo) (sample : Sample)
  | byteReceived (byte : Byte) (framingError : Bool)
  deriving DecidableEq, Repr

end Sys2Proof
end

