-- ==== Sys2Proof/Decode.lean ====
section
/-! DEFINITION. Reading and writing frames: byte order, the CRC, the request catalogue (host link) and the frames of the allocator bus.
The opcode table gives no bits, so `decodeTableWord` answers none; `decodeRequest` reads a sound host frame as a command. -/

namespace Sys2Proof

/-! ### Byte order (R178, chapter 11): least significant byte first -/

/-- The `n` low bytes of `v`, least significant first. -/
def leBytes : Nat → Nat → List Byte
  | 0, _ => []
  | n + 1, v => BitVec.ofNat 8 v :: leBytes n (v / 256)

/-- Two bytes, low byte first, as a two-byte field. -/
def le16 (b0 b1 : Byte) : Word16 := b1 ++ b0

/-- Four bytes, low byte first. -/
def le32 (b0 b1 b2 b3 : Byte) : BitVec 32 := b3 ++ b2 ++ b1 ++ b0

/-- Five bytes, low byte first. -/
def le40 (b0 b1 b2 b3 b4 : Byte) : BitVec 40 := b4 ++ b3 ++ b2 ++ b1 ++ b0

/-- The two bytes of a field, low byte first. -/
def bytes16 (w : Word16) : List Byte := [w.extractLsb' 0 8, w.extractLsb' 8 8]

/-- The four bytes of a field, low byte first. -/
def bytes32 (w : BitVec 32) : List Byte := [w.extractLsb' 0 8, w.extractLsb' 8 8, w.extractLsb' 16 8, w.extractLsb' 24 8]

/-- The five bytes of a field, low byte first. -/
def bytes40 (w : BitVec 40) : List Byte :=
  [w.extractLsb' 0 8, w.extractLsb' 8 8, w.extractLsb' 16 8, w.extractLsb' 24 8, w.extractLsb' 32 8]

/-! ### The CRC (R197) -/

/-- One bit of the register: shift left, and add the polynomial x^16 + x^12 + x^5 + 1 when a 1 leaves it. -/
def crcShift (r : Word16) : Word16 := if r.msb then (r <<< 1) ^^^ 0x1021#16 else r <<< 1

/-- One byte enters the register most significant bit first. -/
def crcByte (r : Word16) (b : Byte) : Word16 :=
  crcShift (crcShift (crcShift (crcShift (crcShift (crcShift (crcShift (crcShift (r ^^^ (b.zeroExtend 16 <<< 8)))))))))

/-- The CRC-16 of both interfaces: initial value 0xFFFF, nothing reflected, nothing inverted. -/
def crc16 (bs : List Byte) : Word16 := bs.foldl crcByte 0xFFFF#16

/-! ### The request catalogue (section 9.4) -/

/-- The body length the catalogue gives for a TYPE, none for a TYPE not listed. SETTLE (0x50) is left out: its length is
checked by the walk of R179. A TYPE with the high bit set is not listed (R173). -/
def catalogueLength (type : Byte) : Option Nat :=
  match type.toNat with
  | 0x01 => some 0
  | 0x02 => some 1
  | 0x03 => some 2
  | 0x10 => some 17
  | 0x11 => some 1
  | 0x12 => some 1
  | 0x13 => some 1
  | 0x14 => some 1
  | 0x15 => some 1
  | 0x16 => some 3
  | 0x17 => some 7
  | 0x18 => some 1
  | 0x20 => some 5
  | 0x21 => some 1
  | 0x22 => some 4
  | 0x23 => some 2
  | 0x24 => some 2
  | 0x25 => some 1
  | 0x26 => some 1
  | 0x27 => some 1
  | 0x28 => some 9
  | 0x29 => some 1
  | 0x30 => some 10
  | 0x31 => some 1
  | 0x32 => some 1
  | 0x40 => some 8
  | 0x41 => some 0
  | 0x42 => some 0
  | 0x43 => some 0
  | 0x44 => some 5
  | 0x45 => some 5
  | 0x46 => some 4
  | 0x51 => some 1
  | 0x52 => some 2
  | 0x53 => some 1
  | 0x60 => some 1
  | 0x61 => some 0
  | _ => none

/-- Whether LINK finds the TYPE in the catalogue (R173). -/
def catalogued (type : Byte) : Bool := type == 0x50#8 || (catalogueLength type).isSome

/-- Five bytes off the front of a body. -/
def take40 : List Byte → Option (BitVec 40 × List Byte)
  | b0 :: b1 :: b2 :: b3 :: b4 :: rest => some (le40 b0 b1 b2 b3 b4, rest)
  | _ => none

/-- The four external energies off the front of a body, bands 0 to 3. -/
def takeEnergies (l : List Byte) : Option (Vector (BitVec 40) 4 × List Byte) := do
  let (e0, l) ← take40 l
  let (e1, l) ← take40 l
  let (e2, l) ← take40 l
  let (e3, l) ← take40 l
  return (#v[e0, e1, e2, e3], l)

/-- LINK's walk over the entries of a SETTLE body by their terms codes (R179): `n` entries that end exactly at the body's end. -/
def walkEntries : Nat → List Byte → Option (List SettleEntry)
  | 0, [] => some []
  | 0, _ :: _ => none
  | n + 1, zone :: timing :: terms :: rest =>
    match terms.toNat with
    | 0 => (walkEntries n rest).map (⟨zone, timing, none, none⟩ :: ·)
    | 1 => do
      let (s, rest) ← take40 rest
      (walkEntries n rest).map (⟨zone, timing, some s, none⟩ :: ·)
    | 2 => do
      let (es, rest) ← takeEnergies rest
      (walkEntries n rest).map (⟨zone, timing, none, some es⟩ :: ·)
    | 3 => do
      let (s, rest) ← take40 rest
      let (es, rest) ← takeEnergies rest
      (walkEntries n rest).map (⟨zone, timing, some s, some es⟩ :: ·)
    | _ => none
  | _ + 1, _ => none

/-- A SETTLE body as the walk finds it. -/
def decodeSettle (body : List Byte) : SettleBody :=
  match body with
  | [] => .malformed 0
  | count :: rest =>
    match walkEntries count.toNat rest with
    | some es => .entries es
    | none => .malformed body.length

/-- The command a sound host frame of this TYPE and body asks for (R173, R178): the catalogue's request when the TYPE is listed
and the body has its length, SETTLE whatever its body, and otherwise the frame LINK refuses. Enumerated fields stay raw bytes,
for the owning block checks them. -/
def decodeRequest (type : Byte) (body : List Byte) : Instr :=
  match type.toNat, body with
  | 0x01, [] => .identify
  | 0x02, [sel] => .readEvents sel
  | 0x03, [m0, m1] => .setEventMask (le16 m0 m1)
  | 0x10, [c, m, z, v0, v1, k0, k1, d0, d1, f0, f1, p0, p1, n0, n1, fil, e] =>
    .configureChannel c m z (le16 v0 v1) (le16 k0 k1) (le16 d0 d1) (le16 f0 f1) (le16 p0 p1) (le16 n0 n1) fil e
  | 0x11, [c] => .startChannel c
  | 0x12, [c] => .pauseChannel c
  | 0x13, [c] => .resumeChannel c
  | 0x14, [c] => .stopChannel c
  | 0x15, [c] => .readChannel c
  | 0x16, [g0, g1, h] => .configureConverter (le16 g0 g1) h
  | 0x17, [n, a0, a1, b0, b1, b2, b3] => .setCalibration n (le16 a0 a1) (le32 b0 b1 b2 b3)
  | 0x18, [n] => .readSensor n
  | 0x20, [z, m, f0, f1, x] => .defineZone z m (le16 f0 f1) x
  | 0x21, [z] => .deleteZone z
  | 0x22, [z, a, r0, r1] => .addMember z a (le16 r0 r1)
  | 0x23, [z, a] => .removeMember z a
  | 0x24, [z, i] => .readZone z i
  | 0x25, [a] => .openAccount a
  | 0x26, [a] => .vacateAccount a
  | 0x27, [a] => .freeAccount a
  | 0x28, [m, a0, a1, b0, b1, c0, c1, d0, d1] => .setPrices m (le16 a0 a1) (le16 b0 b1) (le16 c0 c1) (le16 d0 d1)
  | 0x29, [b] => .setBand b
  | 0x30, [i, s0, s1, s2, s3, z, k, a, f0, f1] => .writePoint i (le32 s0 s1 s2 s3) z k a (le16 f0 f1)
  | 0x31, [i] => .clearPoint i
  | 0x32, [i] => .readPoint i
  | 0x40, [l0, l1, g0, g1, r, s, a, w] => .configureBus (le16 l0 l1) (le16 g0 g1) r s a w
  | 0x41, [] => .busOn
  | 0x42, [] => .busOff
  | 0x43, [] => .startSweep
  | 0x44, [sel, k0, k1, k2, k3] => .readNode sel (le32 k0 k1 k2 k3)
  | 0x45, [s0, s1, s2, s3, d] => .releaseNode (le32 s0 s1 s2 s3) d
  | 0x46, [s0, s1, s2, s3] => .forgetNode (le32 s0 s1 s2 s3)
  | 0x50, body => .settle (decodeSettle body)
  | 0x51, [z] => .readSettlement z
  | 0x52, [a, k] => .peekStatement a k
  | 0x53, [a] => .collectStatement a
  | 0x60, [g] => .readCounters g
  | 0x61, [] => .factoryClear
  | _, body => .unknownRequest type body.length

/-- The bytes of one SETTLE entry (R179). -/
def encodeEntry (e : SettleEntry) : List Byte :=
  match e.standing, e.energies with
  | none, none => [e.zone, e.timing, 0]
  | some s, none => [e.zone, e.timing, 1] ++ bytes40 s
  | none, some es => [e.zone, e.timing, 2] ++ (bytes40 es[0] ++ bytes40 es[1] ++ bytes40 es[2] ++ bytes40 es[3])
  | some s, some es =>
    [e.zone, e.timing, 3] ++ bytes40 s ++ (bytes40 es[0] ++ bytes40 es[1] ++ bytes40 es[2] ++ bytes40 es[3])

/-- The TYPE and body of a catalogued request, as the host sends it (section 9.4). None for a command that is no catalogued
request, and for a SETTLE whose body has no layout. -/
def encodeRequest : Instr → Option (Byte × List Byte)
  | .identify => some (0x01, [])
  | .readEvents sel => some (0x02, [sel])
  | .setEventMask m => some (0x03, bytes16 m)
  | .configureChannel c m z v k d f p n fil e =>
    some (0x10, [c, m, z] ++ (bytes16 v ++ (bytes16 k ++ (bytes16 d ++ (bytes16 f ++ (bytes16 p ++ (bytes16 n ++ [fil, e])))))))
  | .startChannel c => some (0x11, [c])
  | .pauseChannel c => some (0x12, [c])
  | .resumeChannel c => some (0x13, [c])
  | .stopChannel c => some (0x14, [c])
  | .readChannel c => some (0x15, [c])
  | .configureConverter g h => some (0x16, bytes16 g ++ [h])
  | .setCalibration n a b => some (0x17, n :: (bytes16 a ++ bytes32 b))
  | .readSensor n => some (0x18, [n])
  | .defineZone z m f x => some (0x20, [z, m] ++ (bytes16 f ++ [x]))
  | .deleteZone z => some (0x21, [z])
  | .addMember z a r => some (0x22, [z, a] ++ bytes16 r)
  | .removeMember z a => some (0x23, [z, a])
  | .readZone z i => some (0x24, [z, i])
  | .openAccount a => some (0x25, [a])
  | .vacateAccount a => some (0x26, [a])
  | .freeAccount a => some (0x27, [a])
  | .setPrices m a b c d => some (0x28, m :: (bytes16 a ++ (bytes16 b ++ (bytes16 c ++ bytes16 d))))
  | .setBand b => some (0x29, [b])
  | .writePoint i s z k a f => some (0x30, i :: (bytes32 s ++ ([z, k, a] ++ bytes16 f)))
  | .clearPoint i => some (0x31, [i])
  | .readPoint i => some (0x32, [i])
  | .configureBus l g r s a w => some (0x40, bytes16 l ++ (bytes16 g ++ [r, s, a, w]))
  | .busOn => some (0x41, [])
  | .busOff => some (0x42, [])
  | .startSweep => some (0x43, [])
  | .readNode sel k => some (0x44, sel :: bytes32 k)
  | .releaseNode s d => some (0x45, bytes32 s ++ [d])
  | .forgetNode s => some (0x46, bytes32 s)
  | .settle (.entries es) => some (0x50, BitVec.ofNat 8 es.length :: es.flatMap encodeEntry)
  | .settle (.malformed _) => none
  | .readSettlement z => some (0x51, [z])
  | .peekStatement a k => some (0x52, [a, k])
  | .collectStatement a => some (0x53, [a])
  | .readCounters g => some (0x60, [g])
  | .factoryClear => some (0x61, [])
  | .unknownRequest _ _ | .badFrame _ | .linkOverrun | .lineIdle | .replySent | .mainSupplyLoss _ | .mainSupplyRise
  | .qualificationComplete | .retentionLoss | .resetAssert | .resetRelease | .coldStartEnd | .acceptedChange _
  | .inputSettling _ | .noFlow _ _ | .referenceGate _ | .gateComplete _ | .gateOverflow | .beaconInstant | .beaconSent
  | .readTransactionStart | .reading _ _ | .here _ _ | .enrolled _ _ | .replyTimeout | .replyWindowClose | .attemptEnd
  | .acceptanceAct | .missAct | .learning | .setExpectedToggle | .nodeTableOpEnd _ | .senTakeZone | .gather | .fixed
  | .consumption | .area | .standing | .post | .release | .tick _ _ | .byteReceived _ _ => none

/-- A frame on the host link, request or reply (R171): sync, LEN, TYPE, body and CRC, low byte first. -/
def hostFrame (type : Byte) (body : List Byte) : List Byte :=
  let covered := BitVec.ofNat 8 (body.length + 1) :: type :: body
  0xA5#8 :: covered ++ bytes16 (crc16 covered)

/-! ### The allocator bus (R118, R119, R199) -/

/-- A frame on the bus: preamble, length byte (command and body), command byte, body and CRC, low byte first. -/
def busFrame (command : Byte) (body : List Byte) : List Byte :=
  let covered := BitVec.ofNat 8 (body.length + 1) :: command :: body
  0x55#8 :: covered ++ bytes16 (crc16 covered)

/-- The parity bit that makes the count of ones of the data bits and the parity bit even (R118). -/
def evenParity (b : Byte) : Bool :=
  b[0] ^^ b[1] ^^ b[2] ^^ b[3] ^^ b[4] ^^ b[5] ^^ b[6] ^^ b[7]

/-- A byte as the part puts it on the bus, with its parity and stop bits. -/
def busByte (b : Byte) : BusByte := ⟨b, evenParity b, true⟩

/-- A received bus byte has even parity and its stop bit (R119). -/
def BusByte.sound (c : BusByte) : Bool := c.stop && (c.parity == evenParity c.data)

/-- The body of a received frame with this command and body length, when the frame passes every check of R119 but those of its
enumerated fields. -/
def busBody (command : Byte) (length : Nat) (frame : List BusByte) : Option (List Byte) :=
  match frame.map (·.data) with
  | pre :: rest =>
    let body := (rest.drop 2).take length
    let covered := BitVec.ofNat 8 (length + 1) :: command :: body
    if frame.all BusByte.sound && pre == 0x55#8 && rest == covered ++ bytes16 (crc16 covered) && body.length == length then
      some body
    else none
  | [] => none

/-! ### The command word -/

/-- The table's rows give no bits: no word spells a command (log 30). -/
def decodeTableWord (_nbits _w : Nat) : Option Instr := none

end Sys2Proof
end

