-- ==== Sys2Proof/WellFormed.lean ====
section
/-! DEFINITION. Which commands a sender can spell. Most operands are held to their widths by their types; what remains is that a host
frame carries at most 249 body bytes (R171), that a SETTLE body without a layout has none, and that a frame LINK refuses is not one of the catalogue. -/

namespace Sys2Proof

/-- The bytes of a SETTLE body (R179). -/
def SettleBody.length : SettleBody → Nat
  | .entries es => 1 + (es.flatMap encodeEntry).length
  | .malformed n => n

/-- The body fits a frame (R171). -/
def SettleBody.fits (b : SettleBody) : Bool := decide (b.length ≤ 249)

/-- A frame of this TYPE and body length is one LINK refuses (R173): an uncatalogued TYPE, or a listed one with another length. -/
def refusedByLink (type : Byte) (length : Nat) : Bool :=
  decide (length ≤ 249) && type != 0x50#8 && catalogueLength type != some length

/-- The command is one a sender can spell. -/
def Instr.wellFormed : Instr → Bool
  | .settle b => b.fits
  | .unknownRequest type length => refusedByLink type length
  | .identify | .readEvents _ | .setEventMask _ | .configureChannel _ _ _ _ _ _ _ _ _ _ _ | .startChannel _ | .pauseChannel _
  | .resumeChannel _ | .stopChannel _ | .readChannel _ | .configureConverter _ _ | .setCalibration _ _ _ | .readSensor _
  | .defineZone _ _ _ _ | .deleteZone _ | .addMember _ _ _ | .removeMember _ _ | .readZone _ _ | .openAccount _
  | .vacateAccount _ | .freeAccount _ | .setPrices _ _ _ _ _ | .setBand _ | .writePoint _ _ _ _ _ _ | .clearPoint _
  | .readPoint _ | .configureBus _ _ _ _ _ _ | .busOn | .busOff | .startSweep | .readNode _ _ | .releaseNode _ _
  | .forgetNode _ | .readSettlement _ | .peekStatement _ _ | .collectStatement _ | .readCounters _ | .factoryClear
  | .badFrame _ | .linkOverrun | .lineIdle | .replySent | .mainSupplyLoss _ | .mainSupplyRise | .qualificationComplete
  | .retentionLoss | .resetAssert | .resetRelease | .coldStartEnd | .acceptedChange _ | .inputSettling _ | .noFlow _ _
  | .referenceGate _ | .gateComplete _ | .gateOverflow | .beaconInstant | .beaconSent | .readTransactionStart | .reading _ _
  | .here _ _ | .enrolled _ _ | .replyTimeout | .replyWindowClose | .attemptEnd | .acceptanceAct | .missAct | .learning
  | .setExpectedToggle | .nodeTableOpEnd _ | .senTakeZone | .gather | .fixed | .consumption | .area | .standing | .post
  | .release | .tick _ _ | .byteReceived _ _ => true

end Sys2Proof
end

