-- ==== Sys2Proof/Machine/State.lean ====
section
/-! DEFINITION. The state of the part as plain data, block by block, and the state after a cold start. Quantities that the spec counts
exactly and lets saturate or bounds are natural numbers (the operations keep the bounds); numbers that wrap are bit vectors. -/

namespace Sys2Proof.Machine

/-! ### Apportioning Store (APS): accounts, zones, prices -/

/-- State of an account (R1). -/
inductive AccountState where
  | free
  | opened
  | vacant
  deriving DecidableEq, Repr

/-- Mode of a zone or channel (R6, R62). -/
inductive Mode where
  | heating
  | cooling
  deriving DecidableEq, Repr

/-- One item for each mode. -/
structure ByMode (α : Type) where
  heating : α
  cooling : α
  deriving DecidableEq, Repr

/-- Four items, one for each tariff band. -/
abbrev Bands (α : Type) := Vector α 4

/-- A saturating accumulator with its saturated flag (R13, R81). -/
structure Accum where
  value     : Nat
  saturated : Bool
  deriving DecidableEq, Repr

/-- A cleared accumulator. -/
def Accum.zero : Accum := ⟨0, false⟩

/-- A member of a zone with its floor area in 0.1 m² and its weights in the two halves (R11, section 1.4). -/
structure Member where
  account  : AccountNo
  area     : Nat
  openW    : Accum
  closingW : Accum
  deriving DecidableEq, Repr

/-- State of a zone (R7). -/
inductive ZoneState where
  | unused
  | opened
  | armed
  | queued
  | settling
  deriving DecidableEq, Repr

/-- Cause of a zone's last close (R6). -/
inductive CloseCause where
  | none
  | immediate
  | cycleEnd
  | busStop
  deriving DecidableEq, Repr

/-- The terms of a close (R15): an optional standing charge in µ-units and optional external energies in Wh. -/
structure CloseTerms where
  standing : Option Nat
  energies : Option (Bands Nat)
  deriving DecidableEq, Repr

/-- No terms. -/
def CloseTerms.absent : CloseTerms := ⟨none, none⟩

/-- What a zone's closing half holds beside the members' closing weights (section 1.4). -/
structure Closing where
  u      : Accum
  terms  : CloseTerms
  number : Word16
  cause  : CloseCause
  cycle  : Word16
  deriving DecidableEq, Repr

/-- A cleared closing half. -/
def Closing.zero : Closing := ⟨.zero, .absent, 0, .none, 0⟩

/-- A zone record (R6). -/
structure Zone where
  state        : ZoneState
  mode         : Mode
  fixedShare   : Nat
  external     : Bool
  members      : List Member
  openU        : Accum
  closing      : Closing
  armed        : CloseTerms
  lastCause    : CloseCause
  cycleAtClose : Word16
  number       : Word16
  deriving DecidableEq, Repr

/-- A zone after a cold start (R6). -/
def Zone.cold : Zone := ⟨.unused, .heating, 0, false, [], .zero, .zero, .absent, .none, 0, 0⟩

/-! ### Settlement Engine (SEN) -/

/-- The SEN's stage (R24). -/
inductive Stage where
  | idle
  | gather
  | fixed
  | consumption
  | area
  | standing
  | post
  | release
  deriving DecidableEq, Repr

/-- One line of the member snapshot (R26). -/
structure Snapshot where
  account : AccountNo
  area    : Nat
  w       : Nat
  deriving DecidableEq, Repr

/-- The inputs GATHER forms (R26). -/
structure Gathered where
  p              : Bands Nat
  estimated      : Nat
  members        : List Snapshot
  u              : Nat
  standing       : Option Nat
  number         : Word16
  cause          : CloseCause
  cycle          : Word16
  mode           : Mode
  fixedShare     : Nat
  inputSaturated : Bool
  deriving DecidableEq, Repr

/-- The results of FIXED (R27). -/
structure FixedParts where
  f : Bands Nat
  c : Bands Nat
  deriving DecidableEq, Repr

/-- The results of CONSUMPTION (R30): per band the members' shares in list order, the unattributed share and G. -/
structure ConsumptionParts where
  shares       : Bands (List Nat)
  unattributed : Bands Nat
  g            : Bands Nat
  allArea      : Bool
  deriving DecidableEq, Repr

/-- The SEN's scratch results, each present once its stage has ended (R24). -/
structure Scratch where
  gathered    : Option Gathered
  fixed       : Option FixedParts
  consumption : Option ConsumptionParts
  area        : Option (Bands (List Nat))
  standing    : Option (List Nat)
  deriving DecidableEq, Repr

/-- No scratch results. -/
def Scratch.empty : Scratch := ⟨none, none, none, none, none⟩

/-- The SEN's working state (R24). -/
structure Sen where
  stage   : Stage
  zone    : Option ZoneNo
  scratch : Scratch
  deriving DecidableEq, Repr

/-- The idle SEN. -/
def Sen.cold : Sen := ⟨.idle, none, .empty⟩

/-- The figures of one band in a settlement record (R40). -/
structure BandRecord where
  p            : Nat
  f            : Nat
  c            : Nat
  unattributed : Nat
  house        : Nat
  deriving DecidableEq, Repr

/-- A zone's settlement record (R40). -/
structure SettlementRecord where
  number      : Word16
  cause       : CloseCause
  cycle       : Word16
  bands       : Bands BandRecord
  estimated   : Nat
  standing    : Option Nat
  memberCount : Nat
  allArea     : Bool
  noMembers   : Bool
  saturated   : Bool
  deriving DecidableEq, Repr

/-- The record of a zone after a cold start (R40). -/
def SettlementRecord.cold : SettlementRecord :=
  ⟨0, .none, 0, Vector.replicate 4 ⟨0, 0, 0, 0, 0⟩, 0, none, 0, false, false, false⟩

/-! ### Ledger Store (LDS) -/

/-- The unbilled part of a ledger (R48), less the house itemisation. -/
structure Unbilled where
  energy    : ByMode (Bands Nat)
  cost      : ByMode (Bands Nat)
  standing  : Nat
  count     : Nat
  estimated : Bool
  saturated : Bool
  deriving DecidableEq, Repr

/-- Four zeros. -/
def Bands.zero : Bands Nat := Vector.replicate 4 0

/-- An all-zero unbilled part (R48). -/
def Unbilled.zero : Unbilled := ⟨⟨Bands.zero, Bands.zero⟩, ⟨Bands.zero, Bands.zero⟩, 0, 0, false, false⟩

/-- The lifetime part of a ledger (R49): an energy total and a saturated mark per mode. -/
structure Lifetime where
  energy    : ByMode Nat
  saturated : ByMode Bool
  deriving DecidableEq, Repr

/-- The itemisation of the house ledger (R50). -/
structure House where
  fromVacancies  : Nat
  fromMemberless : Nat
  deriving DecidableEq, Repr

/-- An empty itemisation. -/
def House.zero : House := ⟨0, 0⟩

/-- Kind of a statement (R53). -/
inductive StatementKind where
  | current
  | lastCollected
  deriving DecidableEq, Repr

/-- A statement (R53). -/
structure Statement where
  account      : AccountNo
  accountState : AccountState
  kind         : StatementKind
  number       : Word16
  pending      : Bool
  unbilled     : Unbilled
  lifetime     : Lifetime
  house        : House
  deriving DecidableEq, Repr

/-- A ledger (section 3.1). -/
structure Ledger where
  unbilled : Unbilled
  lifetime : Lifetime
  number   : Word16
  last     : Statement
  deriving DecidableEq, Repr

/-- Lifetime totals after a cold start (R49). -/
def Lifetime.zero : Lifetime := ⟨⟨0, 0⟩, ⟨false, false⟩⟩

/-- The ledger of an account after a cold start, with the last collected statement of R54. -/
def Ledger.cold (a : AccountNo) : Ledger :=
  ⟨.zero, .zero, 0, ⟨a, if a = 0 then .opened else .free, .lastCollected, 0, false, .zero, .zero, .zero⟩⟩

/-! ### Energy Integrator (EIN) -/

/-- State of a channel (R65). -/
inductive ChannelState where
  | disabled
  | running
  | hold
  | substitute
  | paused
  deriving DecidableEq, Repr

/-- Sensor status of a channel (R72). -/
inductive SensorStatus where
  | normal
  | hold
  | substitute
  deriving DecidableEq, Repr

/-- A held temperature in centi-degrees with its set mark (R71). -/
structure Held where
  value : Int
  set   : Bool
  deriving DecidableEq, Repr

/-- One half of a channel (R81). -/
structure ChannelHalf where
  bands     : Bands Accum
  estimated : Accum
  deriving DecidableEq, Repr

/-- A cleared half. -/
def ChannelHalf.zero : ChannelHalf := ⟨Vector.replicate 4 .zero, .zero⟩

/-- The activity counters of a channel (R85). -/
structure ChannelCounters where
  pulses       : Nat
  overspeed    : Nat
  reverse      : Nat
  low          : Nat
  beforeTemp   : Nat
  clamped      : Nat
  deriving DecidableEq, Repr

/-- Counters at 0. -/
def ChannelCounters.zero : ChannelCounters := ⟨0, 0, 0, 0, 0, 0⟩

/-- A heat meter channel (R62 to R85). Minimum period, no-flow limit, filter period and edge of R62 stand in its input. -/
structure Channel where
  mode         : Mode
  zone         : Option ZoneNo
  pulseValue   : Nat
  k            : Nat
  minDT        : Nat
  fallbackDT   : Nat
  state        : ChannelState
  status       : SensorStatus
  holdCount    : Nat
  flow         : Held
  ret          : Held
  carry        : Nat
  opn          : ChannelHalf
  closing      : ChannelHalf
  volume       : Nat
  energy       : Nat
  estimated    : Nat
  pausedVolume : Nat
  counters     : ChannelCounters
  deriving DecidableEq, Repr

/-- A channel after a cold start (R62, R83). -/
def Channel.cold : Channel :=
  ⟨.heating, none, 1000, 1161, 0, 0, .disabled, .normal, 0, ⟨0, false⟩, ⟨0, false⟩, 0, .zero, .zero, 0, 0, 0, 0, .zero⟩

/-! ### Pulse Input Unit (PIU) -/

/-- Which accepted changes are pulses (R91). -/
inductive Edge where
  | rising
  | falling
  | both
  deriving DecidableEq, Repr

/-- A pulse as handed to the EIN (R92). -/
structure Pulse where
  period    : Nat
  known     : Bool
  overspeed : Bool
  deriving DecidableEq, Repr

/-- A pulse input (R86, R88, R92). `accepted` none is UNKNOWN. `pulsed` says that a pulse has been found since START (R94, log 19). -/
structure Input where
  filter      : Nat
  edge        : Edge
  minPeriod   : Nat
  noFlowLimit : Nat
  running     : Bool
  accepted    : Option Level
  candidate   : Option Level
  stability   : Nat
  counter     : Nat
  lastPeriod  : Nat
  known       : Bool
  noFlow      : Bool
  pulsed      : Bool
  handover    : Option Pulse
  deriving DecidableEq, Repr

/-- An input after a cold start (R102). -/
def Input.cold : Input := ⟨2, .rising, 0, 3600, false, none, none, 0, 0, 0, false, false, false, none⟩

/-! ### Temperature Converter (TCV) -/

/-- A sensor's calibration (R105): slope and offset in centi-degrees. -/
structure Calibration where
  a : Nat
  b : Int
  deriving DecidableEq, Repr

/-- Fault of a sensor result (R111). -/
inductive SensorFault where
  | openCircuit
  | short
  | reference
  deriving DecidableEq, Repr

/-- Result of a sensor gate (R111, R112). -/
inductive SensorResult where
  | valid (temperature : Int) (clamped : Bool)
  | fault (f : SensorFault)
  deriving DecidableEq, Repr

/-- Status of a last result record (R113). -/
inductive RecordStatus where
  | none
  | valid
  | openCircuit
  | short
  | reference
  deriving DecidableEq, Repr

/-- A sensor's last result record (R113). -/
structure SensorRecord where
  status      : RecordStatus
  clamped     : Bool
  temperature : Option Int
  ts          : Option Nat
  tref        : Option Nat
  round       : Word16
  tally       : Nat
  deriving DecidableEq, Repr

/-- The record of a sensor after a cold start (R113). -/
def SensorRecord.cold : SensorRecord := ⟨.none, false, none, none, none, 0, 0⟩

/-- The gate in flight (R107, R109). -/
inductive Gate where
  | reference
  | sensor (n : SensorNo)
  deriving DecidableEq, Repr

/-- The round in progress (R107, R110): the gate in flight, the sensors of the round list still to be measured after it, the gate
length in force, the reference count (none before the reference gate has ended, or when it overflowed), the REFERENCE indication,
and the flow result of the channel whose return gate is next or in flight (R114). -/
structure Round where
  gate       : Gate
  rest       : List SensorNo
  gateLength : Nat
  tref       : Option Nat
  refFault   : Bool
  flow       : Option SensorResult
  deriving DecidableEq, Repr

/-- The converter (R104 to R113). `round` none is the idle converter. -/
structure Tcv where
  gateLength   : Nat
  holdLimit    : Nat
  calibration  : Vector Calibration 16
  last         : Vector SensorRecord 16
  roundNumber  : Word16
  round        : Option Round
  deriving DecidableEq, Repr

/-- The converter after a cold start (R117). -/
def Tcv.cold : Tcv := ⟨4096, 8, Vector.replicate 16 ⟨25974, -25974⟩, Vector.replicate 16 .cold, 0, none⟩

/-! ### Allocator Bus Master (ABM) -/

/-- Kind of a node (R148). -/
inductive NodeKind where
  | allocator
  | fancoil
  | submeter
  deriving DecidableEq, Repr

/-- Status of a READING (R119). -/
inductive ReadingStatus where
  | ok
  | tamper
  | busy
  deriving DecidableEq, Repr

/-- The fields of a valid READING (R119, R199). -/
structure Reading where
  serial : Serial
  toggle : Bool
  zone   : ZoneNo
  kind   : NodeKind
  units  : Nat
  status : ReadingStatus
  deriving DecidableEq, Repr

/-- The fields of a valid HERE. -/
structure HereReply where
  serial : Serial
  zone   : ZoneNo
  kind   : NodeKind
  deriving DecidableEq, Repr

/-- A range of serials on the sweep stack (R138). -/
structure Range where
  lo : Serial
  hi : Serial
  deriving DecidableEq, Repr

/-- Bus configuration (R122). -/
structure BusConfig where
  cycleLength   : Nat
  guard         : Nat
  retryLimit    : Nat
  silentLimit   : Nat
  ageLimit      : Nat
  sweepInterval : Nat
  deriving DecidableEq, Repr

/-- Bus state (R123). -/
inductive BusState where
  | off
  | running
  | stopping
  deriving DecidableEq, Repr

/-- Cycle phase (R127). -/
inductive Phase where
  | beacon
  | poll
  | sweep
  | wait
  deriving DecidableEq, Repr

/-- The cycle in progress (R126, R130): elapsed time in bit times since its beacon instant, as of the last bus event (log 5), and the bit times
counted since that event by a status record or by the end of a reception (log 6). -/
structure Cycle where
  phase   : Phase
  budget  : Nat
  elapsed : Nat
  passed  : Nat
  cursor  : Option Serial
  deriving DecidableEq, Repr

/-- What an attempt is made for (R120): a READ with the toggle sent, a ROLL CALL over a popped range, an ENROLL of a serial found in a popped range. -/
inductive Transaction where
  | read (serial : Serial) (e : Bool)
  | rollCall (r : Range)
  | enroll (r : Range) (serial : Serial)
  deriving DecidableEq, Repr

/-- How the reception of an attempt ended (R119, R120); `delay` is the number of bit times into the window at which the reply began. -/
inductive AttemptReply where
  | timedOut
  | damaged
  | reading (delay : Nat) (r : Reading)
  | here (delay : Nat) (r : HereReply)
  | enrolled (delay : Nat) (serial : Serial)
  deriving DecidableEq, Repr

/-- What the ABM has in hand on the bus: nothing, a BEACON frame being sent, an attempt (its reply none while the request is sent or
the reply window is open), or a wait for the insertion of a learned serial (R141). -/
inductive Activity where
  | none
  | beacon
  | attempt (t : Transaction) (number : Nat) (reply : Option AttemptReply)
  | learning (r : Range) (serial : Serial)
  deriving DecidableEq, Repr

/-- Outcome of the last sweep (R123). -/
inductive SweepOutcome where
  | none
  | completed
  | abortedTableFull
  | abortedStackFull
  | abortedStop
  deriving DecidableEq, Repr

/-- The sweep (R138): active mark and stack, top first. -/
structure Sweep where
  active : Bool
  stack  : List Range
  deriving DecidableEq, Repr

/-- Bus activity counters (R145). -/
structure BusCounters where
  transactions    : Nat
  timeouts        : Nat
  crcErrors       : Nat
  duplicates      : Nat
  wrongResponders : Nat
  cycles          : Nat
  deriving DecidableEq, Repr

/-- Counters at 0. -/
def BusCounters.zero : BusCounters := ⟨0, 0, 0, 0, 0, 0⟩

/-- Bus fault totals (R146). -/
structure BusTotals where
  overruns      : Nat
  unresolved    : Nat
  zoneInvalid   : Nat
  tableFull     : Nat
  migrations    : Nat
  deriving DecidableEq, Repr

/-- The bus master. `cycle`, `activity` and `sweep` are working state (R189); `sweepLost` says that a sweep was active when the main
domain stopped, for the warm start to record (R147, log 27). -/
structure Abm where
  config      : BusConfig
  bus         : BusState
  cycleNumber : Word16
  rotation    : Serial
  sweepCount  : Nat
  lastSweep   : SweepOutcome
  counters    : BusCounters
  totals      : BusTotals
  cycle       : Option Cycle
  activity    : Activity
  sweep       : Sweep
  sweepLost   : Bool
  deriving DecidableEq, Repr

/-- The bus master after a cold start (R147). -/
def Abm.cold : Abm :=
  ⟨⟨60, 1232, 2, 3, 48, 0⟩, .off, 0, 0, 0, .none, .zero, ⟨0, 0, 0, 0, 0⟩, none, .none, ⟨false, []⟩, false⟩

/-! ### Attribution Unit (ATU) -/

/-- State of a node entry (R149). -/
inductive NodeState where
  | active
  | silent
  | halted
  deriving DecidableEq, Repr

/-- Last reading status of a node entry (R148): OK or TAMPER. -/
inductive LastReading where
  | ok
  | tamper
  deriving DecidableEq, Repr

/-- An entry of the Node Table (R148). -/
structure NodeEntry where
  serial         : Serial
  zone           : ZoneNo
  kind           : NodeKind
  state          : NodeState
  toggle         : Bool
  misses         : Nat
  lastUnits      : Option Nat
  lastStatus     : Option LastReading
  lastCycle      : Option Word16
  tally          : Nat
  tallySaturated : Bool
  deriving DecidableEq, Repr

/-- Who began a removal (R150): FORGET NODE, whose reply waits for it (R154), or a miss (R153). -/
inductive RemovalOrigin where
  | forget
  | aging
  deriving DecidableEq, Repr

/-- The Node Table operation in progress (R150). -/
inductive NodeOp where
  | insertion (h : HereReply)
  | removal (serial : Serial) (origin : RemovalOrigin)
  deriving DecidableEq, Repr

/-- An act the ABM has handed to the ATU and that has not been taken (R150). The range is that of the sweep waiting for it, none when
no sweep waits any more. -/
inductive HandedAct where
  | accept (r : Reading)
  | miss (serial : Serial)
  | learn (r : Option Range) (h : HereReply)
  | setToggle (r : Option Range) (serial : Serial)
  deriving DecidableEq, Repr

/-- An entry of the Point Assignment Table (R164); `zoneFilter` none is absent. -/
structure Point where
  valid      : Bool
  serial     : Serial
  zoneFilter : Option ZoneNo
  kind       : NodeKind
  account    : AccountNo
  factor     : Nat
  deriving DecidableEq, Repr

/-- A point after a cold start (R164). -/
def Point.cold : Point := ⟨false, 0, none, .allocator, 1, 1000⟩

/-- Attribution activity counters (R168). -/
structure AtuCounters where
  resolved    : Nat
  member      : Nat
  mismatch    : Nat
  nonMember   : Nat
  unassigned  : Nat
  quarantined : Nat
  saturated   : Nat
  deriving DecidableEq, Repr

/-- Counters at 0. -/
def AtuCounters.zero : AtuCounters := ⟨0, 0, 0, 0, 0, 0, 0⟩

/-- The attribution unit less its two tables. -/
structure Atu where
  op        : Option NodeOp
  handed    : Option HandedAct
  counters  : AtuCounters
  orphan    : Nat
  discarded : Nat
  deriving DecidableEq, Repr

/-- The attribution unit after a cold start (R169). -/
def Atu.cold : Atu := ⟨none, none, .zero, 0, 0⟩

/-! ### Replies of the host link -/

/-- Status codes (R177). -/
inductive Status where
  | ok
  | busy
  | notReady
  | badValue
  | badIndex
  | wrongState
  | conflict
  | full
  | uncollected
  | noCycle
  | unknownRequest
  deriving DecidableEq, Repr

/-- Kind of a start (R180). -/
inductive StartKind where
  | cold
  | warm
  deriving DecidableEq, Repr

/-- The twelve event flags (R181); SETTLED is a set of zones, bit z for zone z (R198). -/
structure EventFlags where
  settled       : Word16
  channelFault  : Bool
  overspeed     : Bool
  nodeSilent    : Bool
  nodeHalted    : Bool
  nodeTableFull : Bool
  sweepDone     : Bool
  cycleOverrun  : Bool
  supplyBackup  : Bool
  supplyMain    : Bool
  coldStart     : Bool
  linkOverrun   : Bool
  deriving DecidableEq, Repr

/-- No flag set. -/
def EventFlags.none : EventFlags := ⟨0, false, false, false, false, false, false, false, false, false, false, false⟩

/-- The events record (R183, R198). -/
structure EventsRecord where
  number : Word16
  flags  : EventFlags
  mask   : Word16
  deriving DecidableEq, Repr

/-- The ten configuration fields of a channel, as CONFIGURE CHANNEL carries them (R62). -/
structure ChannelConfig where
  mode        : Mode
  zone        : Option ZoneNo
  pulseValue  : Nat
  k           : Nat
  minDT       : Nat
  fallbackDT  : Nat
  minPeriod   : Nat
  noFlowLimit : Nat
  filter      : Nat
  edge        : Edge
  deriving DecidableEq, Repr

/-- The channel record of READ CHANNEL (R84). -/
structure ChannelRecord where
  channel      : ChannelNo
  config       : ChannelConfig
  state        : ChannelState
  status       : SensorStatus
  holdCount    : Nat
  flow         : Held
  ret          : Held
  carry        : Nat
  opn          : ChannelHalf
  closing      : ChannelHalf
  volume       : Nat
  energy       : Nat
  estimated    : Nat
  pausedVolume : Nat
  lastPeriod   : Nat
  known        : Bool
  noFlow       : Bool
  flowRate     : Nat
  deriving DecidableEq, Repr

/-- The sensor record of READ SENSOR (R116). -/
structure SensorReply where
  sensor      : SensorNo
  channel     : ChannelNo
  isReturn    : Bool
  scanned     : Bool
  calibration : Calibration
  last        : SensorRecord
  phase       : Option Gate
  roundNumber : Word16
  inForce     : Option Nat
  gateLength  : Nat
  holdLimit   : Nat
  deriving DecidableEq, Repr

/-- The zone record of READ ZONE (R14); `members` are the up to 12 asked for. -/
structure ZoneReply where
  zone         : ZoneNo
  state        : ZoneState
  mode         : Mode
  fixedShare   : Nat
  external     : Bool
  channels     : List ChannelNo
  armed        : CloseTerms
  lastCause    : CloseCause
  cycleAtClose : Word16
  number       : Word16
  openU        : Accum
  closingU     : Accum
  memberCount  : Nat
  band         : BandNo
  prices       : Bands Nat
  members      : List Member
  deriving DecidableEq, Repr

/-- The bus status record (R123). -/
structure BusStatus where
  bus         : BusState
  phase       : Option Phase
  cycleNumber : Word16
  remaining   : Option Int
  rotation    : Serial
  sweepActive : Bool
  ranges      : Nat
  sweepCount  : Nat
  lastSweep   : SweepOutcome
  config      : BusConfig
  deriving DecidableEq, Repr

/-- The resolving point in a node record (R167). -/
structure ResolvingPoint where
  index   : PointNo
  kind    : NodeKind
  account : AccountNo
  member  : Bool
  deriving DecidableEq, Repr

/-- A found entry in a node record (R167). -/
structure FoundNode where
  index : Nat
  entry : NodeEntry
  point : Option ResolvingPoint
  deriving DecidableEq, Repr

/-- The settlement header and record of READ SETTLEMENT (R42). -/
structure SettlementReply where
  zone        : ZoneNo
  state       : ZoneState
  number      : Word16
  queueLength : Nat
  position    : Option Nat
  stage       : Option Stage
  record      : SettlementRecord
  deriving DecidableEq, Repr

/-- A disposition of RELEASE NODE (R163). -/
inductive Disposition where
  | discard
  | toPool
  deriving DecidableEq, Repr

/-- The content of a reply after its status byte (section 9.4). -/
inductive Content where
  | empty
  | identification (lastStart : StartKind) (startCount : Nat) (eventsRead : Word16)
  | events (r : EventsRecord)
  | mask (mask : Word16) (flags : EventFlags)
  | configuration (channel : ChannelNo) (c : ChannelConfig)
  | channelState (channel : ChannelNo) (state : ChannelState)
  | channelRecord (r : ChannelRecord)
  | converter (gateLength holdLimit : Nat) (inForce : Option Nat)
  | calibration (sensor : SensorNo) (c : Calibration)
  | sensorRecord (r : SensorReply)
  | zoneDefinition (zone : ZoneNo) (state : ZoneState) (mode : Mode) (fixedShare : Nat) (external : Bool)
  | zoneState (zone : ZoneNo) (state : ZoneState)
  | memberCount (zone : ZoneNo) (account : AccountNo) (count : Nat)
  | zoneRecord (r : ZoneReply)
  | accountState (account : AccountNo) (state : AccountState)
  | prices (table : ByMode (Bands Nat))
  | band (b : BandNo)
  | point (index : PointNo) (p : Point)
  | pointIndex (index : PointNo)
  | pointRecord (p : Point) (validCount : Nat) (node : Option (NodeState × ZoneNo))
  | busStatus (r : BusStatus)
  | nodeRecord (count : Nat) (found : Option FoundNode)
  | released (serial : Serial) (d : Disposition) (units : Nat)
  | forgotten (serial : Serial) (count : Nat)
  | entryStatuses (l : List Status)
  | settlement (r : SettlementReply)
  | statement (st : Statement)
  | linkCounters (framesTaken refusals badFrames overruns noise : Nat)
  | einCounters (c : Vector ChannelCounters 8)
  | busCounters (c : BusCounters) (t : BusTotals) (r : BusStatus)
  | attributionCounters (c : AtuCounters) (orphan discarded : Nat)
  deriving DecidableEq, Repr

/-- A reply: its TYPE (the request's with the high bit set), its status and, with status OK, its content (R176). -/
structure Reply where
  type    : Byte
  status  : Status
  content : Content
  deriving DecidableEq, Repr

/-! ### Host Link Port (LINK) -/

/-- LINK's receiver with its buffers (section 9.2): the bytes received from LEN on, the request held, the reply being sent.
`processTaken` is PROCESS with the request taken and its reply not yet formed (R154, R174). -/
inductive Receiver where
  | hunt
  | receive (bytes : List Byte)
  | process (type : Byte) (body : List Byte)
  | processTaken (type : Byte)
  | send (reply : Reply)
  | discard
  deriving DecidableEq, Repr

/-- LINK (R170 to R187). -/
structure Link where
  receiver    : Receiver
  burst       : Bool
  flags       : EventFlags
  mask        : Word16
  eventsRead  : Word16
  copy        : EventsRecord
  framesTaken : Nat
  refusals    : Nat
  badFrames   : Nat
  overruns    : Nat
  noise       : Nat
  startCount  : Nat
  lastStart   : StartKind
  deriving DecidableEq, Repr

/-- LINK as the cold start leaves it before it ends (R186, R187): every flag clear. -/
def Link.cold : Link :=
  ⟨.discard, false, .none, 0x0FFF, 0, ⟨0, .none, 0x0FFF⟩, 0, 0, 0, 0, 0, 0, .cold⟩

/-! ### Supply Supervisor (SSV) -/

/-- Supply state (R188). -/
inductive Supply where
  | main
  | backup
  deriving DecidableEq, Repr

/-- What the main domain does: runs, is held in reset or waits for the pin (R192, R194), is in a cold start (R196), or has no supply (R191). -/
inductive MainDomain where
  | running
  | held
  | coldStart
  | off
  deriving DecidableEq, Repr

/-- The SSV: supply state and retention-valid marker (R188), whether main supply is above its threshold, whether a qualification runs
(R192), the RESET pin, what the main domain does, and whether the backup domain has a supply (R195). -/
structure Ssv where
  supply        : Supply
  markerValid   : Bool
  mainPresent   : Bool
  qualifying    : Bool
  resetAsserted : Bool
  domain        : MainDomain
  powered       : Bool
  deriving DecidableEq, Repr

/-! ### The whole part -/

/-- The state of the part: every block, the model's free-value counter, and the queue of commands (log 1). -/
structure State where
  link     : Link
  ssv      : Ssv
  accounts : Vector AccountState 128
  zones    : Vector Zone 16
  prices   : ByMode (Bands Nat)
  band     : BandNo
  queue    : List ZoneNo
  records  : Vector SettlementRecord 16
  sen      : Sen
  ledgers  : Vector Ledger 128
  house    : House
  channels : Vector Channel 8
  inputs   : Vector Input 8
  tcv      : Tcv
  abm      : Abm
  nodes    : List NodeEntry
  points   : Vector Point 64
  atu      : Atu
  freeUses : Nat
  pending  : List Instr
  deriving DecidableEq, Repr

/-- Why a step stops with a fault. The spec names no event that stops the part: the type is empty, no step answers with a fault. -/
inductive Fault where
  deriving DecidableEq, Repr

/-- Why a command has no meaning. -/
inductive Refusal where
  /-- Raised by a dispatch arm whose meaning is not written (safe: nothing is concluded from it). No arm raises it. -/
  | notModelled (mnemonic : String)
  deriving DecidableEq, Repr

/-- Account states after a cold start: account 0 OPEN, the others FREE (R1). -/
def coldAccounts : Vector AccountState 128 := (Vector.replicate 128 .free).set 0 .opened

/-- The ledgers after a cold start (R61). -/
def coldLedgers : Vector Ledger 128 := Vector.ofFn Ledger.cold

/-- The state right after reset: the end of a cold start on main supply with the RESET pin released (R196, log 20).
COLD_START is set (R187) and nothing waits in the queue. -/
def State.reset : State where
  link     := { Link.cold with flags := { EventFlags.none with coldStart := true } }
  ssv      := ⟨.main, true, true, false, false, .running, true⟩
  accounts := coldAccounts
  zones    := Vector.replicate 16 .cold
  prices   := ⟨Bands.zero, Bands.zero⟩
  band     := 0
  queue    := []
  records  := Vector.replicate 16 .cold
  sen      := .cold
  ledgers  := coldLedgers
  house    := .zero
  channels := Vector.replicate 8 .cold
  inputs   := Vector.replicate 8 .cold
  tcv      := .cold
  abm      := .cold
  nodes    := []
  points   := Vector.replicate 64 .cold
  atu      := .cold
  freeUses := 0
  pending  := []

end Sys2Proof.Machine
end

