-- ==== Sys2Proof/Machine/Ops.lean ====
section
/-! DEFINITION. The shared operations: one setter per field of State, saturating arithmetic, table access, the close of a zone (R18),
the apportion operation (R28), the Node Table (R148, R150) and the point lookup (R159). -/

namespace Sys2Proof.Machine

/-! ### Setters, one for each field of State -/

def State.withLink (s : State) (v : Link) : State := { s with link := v }
def State.withSsv (s : State) (v : Ssv) : State := { s with ssv := v }
def State.withAccounts (s : State) (v : Vector AccountState 128) : State := { s with accounts := v }
def State.withZones (s : State) (v : Vector Zone 16) : State := { s with zones := v }
def State.withPrices (s : State) (v : ByMode (Bands Nat)) : State := { s with prices := v }
def State.withBand (s : State) (v : BandNo) : State := { s with band := v }
def State.withQueue (s : State) (v : List ZoneNo) : State := { s with queue := v }
def State.withRecords (s : State) (v : Vector SettlementRecord 16) : State := { s with records := v }
def State.withSen (s : State) (v : Sen) : State := { s with sen := v }
def State.withLedgers (s : State) (v : Vector Ledger 128) : State := { s with ledgers := v }
def State.withHouse (s : State) (v : House) : State := { s with house := v }
def State.withChannels (s : State) (v : Vector Channel 8) : State := { s with channels := v }
def State.withInputs (s : State) (v : Vector Input 8) : State := { s with inputs := v }
def State.withTcv (s : State) (v : Tcv) : State := { s with tcv := v }
def State.withAbm (s : State) (v : Abm) : State := { s with abm := v }
def State.withNodes (s : State) (v : List NodeEntry) : State := { s with nodes := v }
def State.withPoints (s : State) (v : Vector Point 64) : State := { s with points := v }
def State.withAtu (s : State) (v : Atu) : State := { s with atu := v }
def State.withFreeUses (s : State) (v : Nat) : State := { s with freeUses := v }
def State.withPending (s : State) (v : List Instr) : State := { s with pending := v }

/-- The main domain runs: its blocks take commands, acts and stages (R189). -/
def State.mainRuns (s : State) : Bool := s.ssv.domain == .running

/-! ### Saturating arithmetic ("Arithmetic" in 00_scope.md) -/

/-- The greatest value of 32, 40, 48 and 64 bits. -/
abbrev lim32 : Nat := 2 ^ 32 - 1
abbrev lim40 : Nat := 2 ^ 40 - 1
abbrev lim48 : Nat := 2 ^ 48 - 1
abbrev lim64 : Nat := 2 ^ 64 - 1

/-- Addition that stops at a limit. -/
def satAdd (limit a b : Nat) : Nat := if limit < a + b then limit else a + b

/-- The addition would carry the value beyond the limit. -/
def overflows (limit a b : Nat) : Bool := decide (limit < a + b)

/-- Addition to an accumulator: it stops at the limit and its flag is set when the addition would go beyond. -/
def Accum.add (limit : Nat) (a : Accum) (x : Nat) : Accum :=
  ⟨satAdd limit a.value x, a.saturated || overflows limit a.value x⟩

/-- A 32-bit counter that holds at its limit (R85, R145, R146, R168, R185). -/
def inc32 (n : Nat) : Nat := satAdd lim32 n 1

/-! ### Tables -/

/-- One entry of a table changed. -/
def upd {α : Type} {n : Nat} (v : Vector α n) (i : Fin n) (f : α → α) : Vector α n := v.set i (f v[i])

/-- A list of four items made from the band number. -/
def bandwise {α : Type} (f : BandNo → α) : Bands α := #v[f 0, f 1, f 2, f 3]

/-- Every band, in ascending number. -/
def allBands : List BandNo := [0, 1, 2, 3]

/-- The sum over the bands. -/
def Bands.total (v : Bands Nat) : Nat := v[0] + v[1] + v[2] + v[3]

/-- The item of a mode. -/
def ByMode.get {α : Type} (v : ByMode α) : Mode → α
  | .heating => v.heating
  | .cooling => v.cooling

/-- The item of a mode replaced. -/
def ByMode.put {α : Type} (v : ByMode α) (m : Mode) (x : α) : ByMode α :=
  match m with
  | .heating => { v with heating := x }
  | .cooling => { v with cooling := x }

/-- A change made to each of the eight channels. -/
def mapChannels (f : Channel → Channel) (v : Vector Channel 8) : Vector Channel 8 :=
  #v[f v[0], f v[1], f v[2], f v[3], f v[4], f v[5], f v[6], f v[7]]

/-- Every channel, in ascending number. -/
def allChannels : List ChannelNo := [0, 1, 2, 3, 4, 5, 6, 7]

/-- Every zone, in ascending number. -/
def allZones : List ZoneNo := [0, 1, 2, 3, 4, 5, 6, 7, 8, 9, 10, 11, 12, 13, 14, 15]

/-- Every sensor, in ascending number. -/
def allSensors : List SensorNo := [0, 1, 2, 3, 4, 5, 6, 7, 8, 9, 10, 11, 12, 13, 14, 15]

/-- One zone record changed. -/
def State.updZone (s : State) (z : ZoneNo) (f : Zone → Zone) : State := s.withZones (upd s.zones z f)

/-- One channel changed. -/
def State.updChannel (s : State) (c : ChannelNo) (f : Channel → Channel) : State := s.withChannels (upd s.channels c f)

/-- One input changed. -/
def State.updInput (s : State) (c : ChannelNo) (f : Input → Input) : State := s.withInputs (upd s.inputs c f)

/-! ### Zones -/

/-- The zone refuses requests that would change it: it is ARMED, QUEUED or SETTLING (R8). -/
def ZoneState.busy : ZoneState → Bool
  | .armed | .queued | .settling => true
  | .unused | .opened => false

/-- A settlement of the zone has been closed but not released (R55). -/
def ZoneState.closed : ZoneState → Bool
  | .queued | .settling => true
  | .unused | .opened | .armed => false

/-- The account's line in a member list. -/
def findMember (a : AccountNo) (ms : List Member) : Option Member := ms.find? (fun m => m.account == a)

/-- Whether the account is in a zone's member list. -/
def Zone.hasMember (z : Zone) (a : AccountNo) : Bool := z.members.any (fun m => m.account == a)

/-- The channels assigned to a zone, whatever their state (R62). -/
def State.assigned (s : State) (z : ZoneNo) : List ChannelNo :=
  allChannels.filter (fun c => s.channels[c].zone == some z)

/-- Units added to the open U of a zone (R13). -/
def State.addU (s : State) (z : ZoneNo) (x : Nat) : State :=
  s.updZone z (fun r => { r with openU := r.openU.add lim48 x })

/-- Units added to the open W of a member (R13). -/
def State.addW (s : State) (z : ZoneNo) (a : AccountNo) (x : Nat) : State :=
  s.updZone z (fun r => { r with members := r.members.map (fun m => if m.account = a then { m with openW := m.openW.add lim48 x } else m) })

/-- A member's part of the close (R18, step 1). -/
def Member.close (m : Member) : Member := { m with openW := .zero, closingW := m.openW }

/-- A zone record's part of the close (R18, steps 1, 3, 4 and 5); `cycle` is the ABM's current cycle number. -/
def Zone.close (cause : CloseCause) (cycle : Word16) (terms : CloseTerms) (z : Zone) : Zone :=
  { z with
    state := .queued
    members := z.members.map Member.close
    openU := .zero
    closing := ⟨z.openU, terms, z.number + 1, cause, cycle⟩
    armed := .absent
    lastCause := cause
    cycleAtClose := cycle
    number := z.number + 1 }

/-- A channel's part of the close (R18, step 2). -/
def Channel.close (c : Channel) : Channel := { c with opn := .zero, closing := c.opn }

/-- The close of a zone, one act on the zone and on every channel assigned to it (R18). -/
def State.closeZone (s : State) (z : ZoneNo) (cause : CloseCause) (terms : CloseTerms) : State :=
  ((s.updZone z (Zone.close cause s.abm.cycleNumber terms)).withChannels
    (mapChannels (fun c => if c.zone = some z then c.close else c) s.channels)).withQueue (s.queue ++ [z])

/-- Closes the zone with its armed terms when it is ARMED (R16, R17). -/
def State.closeIfArmed (cause : CloseCause) (s : State) (z : ZoneNo) : State :=
  if s.zones[z].state = .armed then s.closeZone z cause s.zones[z].armed else s

/-- Every ARMED zone closes, in ascending zone number (R16, R17). -/
def State.closeArmed (s : State) (cause : CloseCause) : State := allZones.foldl (State.closeIfArmed cause) s

/-! ### The apportion operation (R28) -/

/-- How many recipients are preferred to recipient `i`: those with a larger remainder, and those with an equal remainder that stand
earlier in the stated order. -/
def preferredTo (rems : List Nat) (i : Nat) : Nat :=
  ((List.range rems.length).filter
    (fun j => decide (rems.getD i 0 < rems.getD j 0) || (rems.getD j 0 == rems.getD i 0 && decide (j < i)))).length

/-- The exact largest-remainder division of a pool among recipients by weight, in the stated order (R28). -/
def apportion (pool : Nat) (weights : List Nat) : List Nat :=
  let sum := weights.sum
  let base := weights.map (fun w => pool * w / sum)
  let rems := weights.map (fun w => pool * w - pool * w / sum * sum)
  let leftover := pool - base.sum
  (List.range weights.length).map (fun i => base.getD i 0 + if preferredTo rems i < leftover then 1 else 0)

/-! ### The Node Table (R148) -/

/-- The entry's removal has begun: it counts as removed (R150). -/
def State.removing (s : State) (serial : Serial) : Bool :=
  match s.atu.op with
  | some (.removal x _) => x == serial
  | _ => false

/-- The entries present for every act and request (R150). -/
def State.presentNodes (s : State) : List NodeEntry := s.nodes.filter (fun e => !s.removing e.serial)

/-- The entry of a serial, none when it is absent or its removal has begun. -/
def State.node? (s : State) (serial : Serial) : Option NodeEntry := s.presentNodes.find? (fun e => e.serial == serial)

/-- One entry changed. -/
def State.updNode (s : State) (serial : Serial) (f : NodeEntry → NodeEntry) : State :=
  s.withNodes (s.nodes.map (fun e => if e.serial = serial then f e else e))

/-- An entry inserted at its place in ascending serial order (R148). -/
def insertNode (e : NodeEntry) : List NodeEntry → List NodeEntry
  | [] => [e]
  | x :: xs => if e.serial < x.serial then e :: x :: xs else x :: insertNode e xs

/-- A learned entry, with the values of R148 under "On insertion". -/
def NodeEntry.learned (h : HereReply) : NodeEntry :=
  ⟨h.serial, h.zone, h.kind, .active, true, 0, none, none, none, 0, false⟩

/-- A Node Table operation is in progress (R150). -/
def State.opInProgress (s : State) : Bool := s.atu.op.isSome

/-! ### Points (R159, R164) -/

/-- Every point number, in ascending order. -/
def allPoints : List PointNo := List.finRange 64

/-- A valid point matches a serial and zone (R159). -/
def Point.covers (p : Point) (serial : Serial) (z : ZoneNo) : Bool :=
  p.valid && p.serial == serial && (p.zoneFilter == none || p.zoneFilter == some z)

/-- The lowest-indexed valid point that matches (R159). -/
def State.matchingPoint (s : State) (serial : Serial) (z : ZoneNo) : Option PointNo :=
  allPoints.find? (fun i => s.points[i].covers serial z)

/-- Two zone filters overlap when they are equal or either is absent (R164). -/
def filtersOverlap (a b : Option ZoneNo) : Bool := a == none || b == none || a == b

/-! ### Counters of the ABM and ATU -/

/-- The bus activity counters changed. -/
def State.countBus (s : State) (f : BusCounters → BusCounters) : State := s.withAbm { s.abm with counters := f s.abm.counters }

/-- The bus fault totals changed. -/
def State.countTotal (s : State) (f : BusTotals → BusTotals) : State := s.withAbm { s.abm with totals := f s.abm.totals }

/-- The attribution counters changed. -/
def State.countAtu (s : State) (f : AtuCounters → AtuCounters) : State := s.withAtu { s.atu with counters := f s.atu.counters }

end Sys2Proof.Machine
end

