-- ==== Sys2Proof/Machine/Flags.lean ====
section
/-! DEFINITION. The event flags, the mask and ALERT (R181 to R184, R198). -/

namespace Sys2Proof.Machine

/-- A flag at its bit of the two-byte field (R198). -/
def flagBit (b : Bool) (i : Nat) : Word16 := if b then 1#16 <<< i else 0

/-- The flag word: bit 0 is set when the SETTLED set holds a zone (R198). -/
def EventFlags.word (f : EventFlags) : Word16 :=
  flagBit (f.settled != 0) 0 ||| flagBit f.channelFault 1 ||| flagBit f.overspeed 2 ||| flagBit f.nodeSilent 3 |||
  flagBit f.nodeHalted 4 ||| flagBit f.nodeTableFull 5 ||| flagBit f.sweepDone 6 ||| flagBit f.cycleOverrun 7 |||
  flagBit f.supplyBackup 8 ||| flagBit f.supplyMain 9 ||| flagBit f.coldStart 10 ||| flagBit f.linkOverrun 11

/-- A mask has none of its four unused bits set (R182, R198). -/
def maskValid (m : Word16) : Bool := m &&& 0xF000#16 == 0

/-- ALERT is driven low: LINK runs and at least one flag is set whose enable is set (R184). -/
def State.alertLow (s : State) : Bool :=
  s.ssv.domain == .running && (s.link.flags.word &&& s.link.mask) != 0

/-- The event flags changed. -/
def State.flag (s : State) (f : EventFlags → EventFlags) : State := s.withLink { s.link with flags := f s.link.flags }

/-- A zone added to the SETTLED set (R181). -/
def EventFlags.addSettled (z : ZoneNo) (f : EventFlags) : EventFlags := { f with settled := f.settled ||| 1#16 <<< z.val }

/-- CHANNEL_FAULT set. -/
def EventFlags.raiseChannelFault (f : EventFlags) : EventFlags := { f with channelFault := true }

/-- OVERSPEED set. -/
def EventFlags.raiseOverspeed (f : EventFlags) : EventFlags := { f with overspeed := true }

/-- NODE_SILENT set. -/
def EventFlags.raiseNodeSilent (f : EventFlags) : EventFlags := { f with nodeSilent := true }

/-- NODE_HALTED set. -/
def EventFlags.raiseNodeHalted (f : EventFlags) : EventFlags := { f with nodeHalted := true }

/-- NODE_TABLE_FULL set. -/
def EventFlags.raiseNodeTableFull (f : EventFlags) : EventFlags := { f with nodeTableFull := true }

/-- SWEEP_DONE set. -/
def EventFlags.raiseSweepDone (f : EventFlags) : EventFlags := { f with sweepDone := true }

/-- CYCLE_OVERRUN set. -/
def EventFlags.raiseCycleOverrun (f : EventFlags) : EventFlags := { f with cycleOverrun := true }

/-- SUPPLY_BACKUP set. -/
def EventFlags.raiseSupplyBackup (f : EventFlags) : EventFlags := { f with supplyBackup := true }

/-- SUPPLY_MAIN set. -/
def EventFlags.raiseSupplyMain (f : EventFlags) : EventFlags := { f with supplyMain := true }

/-- LINK_OVERRUN set. -/
def EventFlags.raiseLinkOverrun (f : EventFlags) : EventFlags := { f with linkOverrun := true }

end Sys2Proof.Machine
end

