-- ==== Sys2Proof/Machine/Operands.lean ====
section
/-! DEFINITION. The operand forms of the requests: a raw byte or field of a body read as the number, code or absent mark it stands for
(R178), or none when it is out of range; and the fields of the bus replies (R119, R199). -/

namespace Sys2Proof.Machine

/-- A number below `n`, none above. -/
def index (n : Nat) (v : Nat) : Option (Fin n) := if h : v < n then some ⟨v, h⟩ else none

/-- A zone number (R8). -/
def zoneOf (b : Byte) : Option ZoneNo := index 16 b.toNat

/-- An account number (R2). -/
def accountOf (b : Byte) : Option AccountNo := index 128 b.toNat

/-- A channel number (R63). -/
def channelOf (b : Byte) : Option ChannelNo := index 8 b.toNat

/-- A sensor number (R105). -/
def sensorOf (b : Byte) : Option SensorNo := index 16 b.toNat

/-- A point index (R165). -/
def pointOf (b : Byte) : Option PointNo := index 64 b.toNat

/-- A band number (R21). -/
def bandOf (b : Byte) : Option BandNo := index 4 b.toNat

/-- A zone field that may hold 0xFF for NONE or absent (R178): none when it is out of range. -/
def optionalZoneOf (b : Byte) : Option (Option ZoneNo) :=
  if b = 0xFF#8 then some none else (zoneOf b).map some

/-- A mode code (R9, R20, R63). -/
def modeOf (b : Byte) : Option Mode :=
  match b.toNat with
  | 0 => some .heating
  | 1 => some .cooling
  | _ => none

/-- An edge code (R63). -/
def edgeOf (b : Byte) : Option Edge :=
  match b.toNat with
  | 0 => some .rising
  | 1 => some .falling
  | 2 => some .both
  | _ => none

/-- An external flag code: CLEAR 0, EXTERNAL 1 (section 9.4). -/
def externalOf (b : Byte) : Option Bool :=
  match b.toNat with
  | 0 => some false
  | 1 => some true
  | _ => none

/-- A node kind code (R165, R199). -/
def kindOf (b : Byte) : Option NodeKind :=
  match b.toNat with
  | 0 => some .allocator
  | 1 => some .fancoil
  | 2 => some .submeter
  | _ => none

/-- A filter period in ticks: 1, 2, 8 or 32 (R62). -/
def filterOf (b : Byte) : Option Nat :=
  if b.toNat = 1 ∨ b.toNat = 2 ∨ b.toNat = 8 ∨ b.toNat = 32 then some b.toNat else none

/-- A gate length: 1,024, 2,048, 4,096 or 8,192 (R104). -/
def gateLengthOf (w : Word16) : Option Nat :=
  if w.toNat = 1024 ∨ w.toNat = 2048 ∨ w.toNat = 4096 ∨ w.toNat = 8192 then some w.toNat else none

/-- A disposition code (R163). -/
def dispositionOf (b : Byte) : Option Disposition :=
  match b.toNat with
  | 0 => some .discard
  | 1 => some .toPool
  | _ => none

/-- A statement kind code (R56). -/
def statementKindOf (b : Byte) : Option StatementKind :=
  match b.toNat with
  | 0 => some .current
  | 1 => some .lastCollected
  | _ => none

/-- The ten fields of CONFIGURE CHANNEL read and ranged, none when any is out of its range (R62; R63, check 2). -/
def channelConfigOf (mode zone : Byte) (pulseValue k minDT fallbackDT minPeriod noFlowLimit : Word16) (filter edge : Byte) :
    Option ChannelConfig := do
  let m ← modeOf mode
  let z ← optionalZoneOf zone
  let fil ← filterOf filter
  let e ← edgeOf edge
  if pulseValue.toNat = 0 ∨ 500 < minDT.toNat ∨ 5000 < fallbackDT.toNat ∨ noFlowLimit.toNat = 0 ∨ 3600 < noFlowLimit.toNat then none
  else
    some ⟨m, z, pulseValue.toNat, k.toNat, minDT.toNat, fallbackDT.toNat, minPeriod.toNat, noFlowLimit.toNat, fil, e⟩

/-- A calibration offset in its range −65,536 to +65,535 (R105). -/
def offsetOf (b : BitVec 32) : Option Int := if -65536 ≤ b.toInt ∧ b.toInt ≤ 65535 then some b.toInt else none

/-- The point CONFIGURED by WRITE POINT's fields, none when any is out of range (R165, check 2). -/
def pointFieldsOf (serial : Serial) (zoneFilter kind account : Byte) (factor : Word16) : Option Point := do
  let z ← optionalZoneOf zoneFilter
  let k ← kindOf kind
  let a ← accountOf account
  if a = 0 ∨ factor.toNat = 0 then none else some ⟨true, serial, z, k, a, factor.toNat⟩

/-- The six fields of CONFIGURE BUS, none when any is out of its range or the age limit is not above the silent limit (R122). -/
def busConfigOf (cycleLength guard : Word16) (retryLimit silentLimit ageLimit sweepInterval : Byte) : Option BusConfig :=
  if 10 ≤ cycleLength.toNat ∧ cycleLength.toNat ≤ 3600 ∧ retryLimit.toNat ≤ 3 ∧ 1 ≤ silentLimit.toNat ∧ silentLimit.toNat ≤ 254 ∧
      silentLimit.toNat < ageLimit.toNat then
    some ⟨cycleLength.toNat, guard.toNat, retryLimit.toNat, silentLimit.toNat, ageLimit.toNat, sweepInterval.toNat⟩
  else none

/-- A READING's status code (R199). -/
def readingStatusOf (b : Byte) : Option ReadingStatus :=
  match b.toNat with
  | 0 => some .ok
  | 1 => some .tamper
  | 2 => some .busy
  | _ => none

/-- A valid READING's fields (R119, R199): of the toggle byte, bit 0 alone is examined. -/
def readingOf (frame : List BusByte) : Option Reading := do
  match ← busBody 0x82#8 10 frame with
  | [s0, s1, s2, s3, t, z, k, u0, u1, st] =>
    let zone ← zoneOf z
    let kind ← kindOf k
    let status ← readingStatusOf st
    some ⟨le32 s0 s1 s2 s3, t[0], zone, kind, (le16 u0 u1).toNat, status⟩
  | _ => none

/-- A valid HERE's fields. -/
def hereOf (frame : List BusByte) : Option HereReply := do
  match ← busBody 0x83#8 6 frame with
  | [s0, s1, s2, s3, z, k] =>
    let zone ← zoneOf z
    let kind ← kindOf k
    some ⟨le32 s0 s1 s2 s3, zone, kind⟩
  | _ => none

/-- A valid ENROLLED's serial. -/
def enrolledOf (frame : List BusByte) : Option Serial := do
  match ← busBody 0x84#8 4 frame with
  | [s0, s1, s2, s3] => some (le32 s0 s1 s2 s3)
  | _ => none

end Sys2Proof.Machine
end

