-- ==== Sys2Proof/Machine/Request.lean ====
section
/-! DEFINITION. How a host request is taken and answered (R173, R174, R176): the one wrapper of every request's meaning. -/

namespace Sys2Proof.Machine

/-- What the owning block answers when it takes a request: a reply at once, or a reply that waits for an operation (R174). -/
inductive Answer where
  | reply (status : Status) (content : Content) (s : State)
  | wait (s : State)

/-- A refusal with a status alone: nothing has changed (R173, R176). -/
def refuse (status : Status) (s : State) : Answer := .reply status .empty s

/-- The request is carried out. -/
def accept (content : Content) (s : State) : Answer := .reply .ok content s

/-- A reply is formed: LINK enters SEND with it, and a status that is not OK counts as a refusal (R174, R176).
The reply's TYPE is the request's with the high bit set. -/
def State.reply (s : State) (type : Byte) (status : Status) (content : Content) : State :=
  s.withLink { s.link with
    receiver := .send ⟨type ||| 0x80#8, status, content⟩
    refusals := if status = .ok then s.link.refusals else inc32 s.link.refusals }

/-- The request can be taken: the main domain runs, and LINK holds this very request in PROCESS, not yet taken, or LINK is in HUNT and
a sound frame with this request comes in whole (log 3). -/
def State.canTake (s : State) (i : Instr) : Bool :=
  s.ssv.domain == .running &&
    match s.link.receiver with
    | .hunt => i.wellFormed
    | .process type body => decodeRequest type body == i
    | .receive _ | .processTaken _ | .send _ | .discard => false

/-- The frame of a request found sound: from HUNT, the frame has just come in and is counted (R172); in PROCESS it had been counted. -/
def State.arrive (s : State) : State :=
  match s.link.receiver with
  | .hunt => s.withLink { s.link with framesTaken := inc32 s.link.framesTaken }
  | .receive _ | .process _ _ | .processTaken _ | .send _ | .discard => s

/-- A request of this TYPE is taken by its owner at this moment; when it cannot be taken, nothing happens (log 3). -/
def State.take (s : State) (i : Instr) (type : Byte) (owner : State → Answer) : State :=
  if s.canTake i then
    match owner s.arrive with
    | .reply status content t => t.reply type status content
    | .wait t => t.withLink { t.link with receiver := .processTaken type }
  else s

end Sys2Proof.Machine
end

