-- ==== Sys2Proof/Machine/Accounts.lean ====
section
/-! DEFINITION. The account requests (R1 to R5, R59). -/

namespace Sys2Proof.Machine

/-- The unbilled part of a ledger is all zero; for account 0 the itemisation must be 0 too (R48). -/
def State.ledgerZero (s : State) (a : AccountNo) : Bool :=
  s.ledgers[a].unbilled == .zero && (a != 0 || s.house == .zero)

/-- The account is a member of some zone, whatever the zone's state (R5). -/
def State.isMember (s : State) (a : AccountNo) : Bool := allZones.any (fun z => s.zones[z].hasMember a)

/-- An account's state changed, with the reply of R2. -/
def State.moveAccount (s : State) (a : AccountNo) (st : AccountState) : Answer :=
  accept (.accountState a st) (s.withAccounts (s.accounts.set a st))

/-- The checks on the account number (R2): above 127, or 0, is BAD_INDEX. -/
def withAccount (account : Byte) (s : State) (k : AccountNo → Answer) : Answer :=
  match accountOf account with
  | none => refuse .badIndex s
  | some a => if a = 0 then refuse .badIndex s else k a

/-- OPEN ACCOUNT (R3). -/
def openAccountOwner (account : Byte) (s : State) : Answer :=
  withAccount account s fun a =>
    if s.accounts[a] = .opened then refuse .wrongState s
    else if !s.ledgerZero a then refuse .uncollected s
    else s.moveAccount a .opened

/-- VACATE ACCOUNT (R4). -/
def vacateAccountOwner (account : Byte) (s : State) : Answer :=
  withAccount account s fun a =>
    if s.accounts[a] = .opened then s.moveAccount a .vacant else refuse .wrongState s

/-- FREE ACCOUNT (R5). -/
def freeAccountOwner (account : Byte) (s : State) : Answer :=
  withAccount account s fun a =>
    if s.accounts[a] ≠ .vacant then refuse .wrongState s
    else if s.isMember a then refuse .conflict s
    else if !s.ledgerZero a then refuse .uncollected s
    else s.moveAccount a .free

/-- OPEN_ACCOUNT (R3). -/
def execOpenAccount (account : Byte) (s : State) : Host.Outcome State Fault Refusal :=
  .next (s.take (.openAccount account) 0x25 (openAccountOwner account))

/-- VACATE_ACCOUNT (R4). -/
def execVacateAccount (account : Byte) (s : State) : Host.Outcome State Fault Refusal :=
  .next (s.take (.vacateAccount account) 0x26 (vacateAccountOwner account))

/-- FREE_ACCOUNT (R5). -/
def execFreeAccount (account : Byte) (s : State) : Host.Outcome State Fault Refusal :=
  .next (s.take (.freeAccount account) 0x27 (freeAccountOwner account))

end Sys2Proof.Machine
end

