-- ==== Sys2Proof/Machine/Bus.lean ====
section
/-! DEFINITION. The Allocator Bus Master (R118 to R147): cycles, the poll, attempts, the sweep, the stop and the reception of replies.
Bus time advances at the events of this file and at the end of a Node Table operation (log 5). -/

namespace Sys2Proof.Machine

/-! ### Working state -/

/-- The cycle replaced. -/
def State.withCycle (s : State) (c : Option Cycle) : State := s.withAbm { s.abm with cycle := c }

/-- The cycle in progress changed. -/
def State.updCycle (s : State) (f : Cycle → Cycle) : State := s.withCycle (s.abm.cycle.map f)

/-- The phase changed. -/
def State.toPhase (s : State) (p : Phase) : State := s.updCycle fun c => { c with phase := p }

/-- The elapsed time counted up to a bus event, `n` bit times after the one before (log 5). -/
def State.elapse (s : State) (n : Nat) : State := s.updCycle fun c => { c with elapsed := c.elapsed + n, passed := 0 }

/-- The work in hand replaced. -/
def State.withActivity (s : State) (a : Activity) : State := s.withAbm { s.abm with activity := a }

/-- The sweep stack replaced. -/
def State.withStack (s : State) (l : List Range) : State := s.withAbm { s.abm with sweep := { s.abm.sweep with stack := l } }

/-- The rotation position replaced. -/
def State.withRotation (s : State) (x : Serial) : State := s.withAbm { s.abm with rotation := x }

/-- An act handed to the ATU. -/
def State.hand (s : State) (a : Option HandedAct) : State := s.withAtu { s.atu with handed := a }

/-- Counters and totals, one by one (R145, R146). -/
def BusCounters.addTransaction (c : BusCounters) : BusCounters := { c with transactions := inc32 c.transactions }
def BusCounters.addTimeout (c : BusCounters) : BusCounters := { c with timeouts := inc32 c.timeouts }
def BusCounters.addCrcError (c : BusCounters) : BusCounters := { c with crcErrors := inc32 c.crcErrors }
def BusCounters.addDuplicate (c : BusCounters) : BusCounters := { c with duplicates := inc32 c.duplicates }
def BusCounters.addWrongResponder (c : BusCounters) : BusCounters := { c with wrongResponders := inc32 c.wrongResponders }
def BusCounters.addCycle (c : BusCounters) : BusCounters := { c with cycles := inc32 c.cycles }
def BusTotals.addOverrun (t : BusTotals) : BusTotals := { t with overruns := inc32 t.overruns }
def BusTotals.addUnresolved (t : BusTotals) : BusTotals := { t with unresolved := inc32 t.unresolved }
def BusTotals.addZoneInvalid (t : BusTotals) : BusTotals := { t with zoneInvalid := inc32 t.zoneInvalid }
def BusTotals.addTableFull (t : BusTotals) : BusTotals := { t with tableFull := inc32 t.tableFull }
def BusTotals.addMigration (t : BusTotals) : BusTotals := { t with migrations := inc32 t.migrations }

/-! ### The guard (R128) and the rotation (R130) -/

/-- The remaining budget is above 0 and not below the guard (R128). -/
def Cycle.allows (guard : Nat) (c : Cycle) : Bool := decide (c.elapsed < c.budget) && decide (guard ≤ c.budget - c.elapsed)

/-- An attempt may start (R128): no stop is pending (R125) and the guard allows it. -/
def State.canStart (s : State) : Bool :=
  s.abm.bus == .running &&
    match s.abm.cycle with
    | some c => c.allows s.abm.config.guard
    | none => false

/-- The budget has run out. -/
def Cycle.spent (c : Cycle) : Bool := decide (c.budget ≤ c.elapsed)

/-- An attempt or wait overran the budget; an end exactly at the budget is left open (log 7). -/
def Cycle.overran (c : Cycle) : Bool := decide (c.budget < c.elapsed) || (c.budget == c.elapsed && Config.exactEndOverruns)

/-- The place of a serial in rotation order: its distance upwards from the rotation position (R130). -/
def rotationKey (rotation serial : Serial) : Nat := (serial - rotation).toNat

/-- The entry comes after the poll cursor in rotation order (R130). -/
def afterCursor (rotation : Serial) (cursor : Option Serial) (e : NodeEntry) : Bool :=
  match cursor with
  | none => true
  | some c => decide (rotationKey rotation c < rotationKey rotation e.serial)

/-- The earlier of two entries in rotation order. -/
def earlier (rotation : Serial) (best : Option NodeEntry) (e : NodeEntry) : Option NodeEntry :=
  match best with
  | none => some e
  | some b => if rotationKey rotation e.serial < rotationKey rotation b.serial then some e else some b

/-- The first entry in rotation order that comes after the cursor (R130). -/
def State.nextEntry (s : State) (c : Cycle) : Option NodeEntry :=
  (s.presentNodes.filter (afterCursor s.abm.rotation c.cursor)).foldl (earlier s.abm.rotation) none

/-! ### The sweep (R138 to R144) -/

/-- The range of every serial (R138). -/
def fullRange : Range := ⟨0#32, 0xFFFFFFFF#32⟩

/-- A sweep starts (R138). -/
def State.beginSweep (s : State) : State :=
  s.withAbm { s.abm with sweep := ⟨true, [fullRange]⟩, sweepCount := 0 }

/-- A sweep ends: the stack is emptied, the outcome recorded, SWEEP_DONE set, and a SWEEP phase becomes WAIT (R144). -/
def State.endSweep (s : State) (o : SweepOutcome) : State :=
  ((s.withAbm { s.abm with
      sweep := ⟨false, []⟩
      lastSweep := o
      cycle := s.abm.cycle.map fun c => if c.phase = Phase.sweep then { c with phase := .wait } else c }).flag .raiseSweepDone)

/-- The middle of a range (R143). -/
def Range.mid (r : Range) : Serial := BitVec.ofNat 32 ((r.lo.toNat + r.hi.toNat) / 2)

/-- The lower half of a range. -/
def Range.lower (r : Range) : Range := ⟨r.lo, r.mid⟩

/-- The upper half of a range. -/
def Range.upper (r : Range) : Range := ⟨r.mid + 1, r.hi⟩

/-- The serial lies in the range, both ends included. -/
def Range.holds (r : Range) (x : Serial) : Bool := decide (r.lo ≤ x) && decide (x ≤ r.hi)

/-- A popped range is split, dropped, or aborts the sweep when the stack has no room (R143); `unresolved` says that a drop counts as an
unresolved collision. -/
def State.splitRange (s : State) (r : Range) (unresolved : Bool) : State :=
  if r.lo < r.hi then
    if s.abm.sweep.stack.length ≤ 30 then s.withStack (r.lower :: r.upper :: s.abm.sweep.stack)
    else s.endSweep .abortedStackFull
  else if unresolved then s.countTotal .addUnresolved
  else s

/-- A range put back on top of the stack (R142). -/
def State.pushBack (s : State) (r : Range) : State := s.withStack (r :: s.abm.sweep.stack)

/-- An attempt starts (R120). -/
def State.startAttempt (s : State) (t : Transaction) (number : Nat) : State := s.withActivity (.attempt t number none)

/-- The next step of the sweep (R139): it completes on an empty stack, the guard stops it, or the top range is popped and asked. -/
def State.sweepStep (s : State) : State :=
  match s.abm.sweep.stack with
  | [] => s.endSweep .completed
  | r :: rest =>
    if s.canStart then ((s.withStack rest).countBus .addTransaction).startAttempt (.rollCall r) 1 else s.toPhase .wait

/-- The ENROLL transaction of a learned serial begins, or the range goes back when the guard or a stop prevents it (R142). An ENROLL prevented
before its first attempt is not counted as a transaction: the model's choice (R142, R145, log 10). -/
def State.startEnroll (s : State) (r : Range) (serial : Serial) : State :=
  if s.canStart then (s.countBus .addTransaction).startAttempt (.enroll r serial) 1 else (s.pushBack r).toPhase .wait

/-! ### Cycles (R126, R129) -/

/-- POLL ends with every entry reached: SWEEP follows when a sweep is active, else WAIT (R127). -/
def State.endPoll (s : State) : State := if s.abm.sweep.active then (s.toPhase .sweep).sweepStep else s.toPhase .wait

/-- The budget has run out in POLL: the first deferred entry gives the rotation position (R130). -/
def State.deferRest (s : State) : State :=
  match s.abm.cycle with
  | some c =>
    if c.phase = .poll then
      match s.nextEntry c with
      | some e => s.withRotation e.serial
      | none => s
    else s
  | none => s

/-- The overrun of the cycle that ends is counted and flagged (R129). -/
def State.noteOverrun (s : State) : State :=
  match s.abm.cycle with
  | some c => if c.overran then (s.countTotal .addOverrun).flag .raiseCycleOverrun else s
  | none => s

/-- The automatic sweep at a beacon instant (R126 step 5, R138). That the count goes on rising to 255 while a sweep that is due waits for an active
one, as R126 says, and does not hold at its value, as R138 can be read, is the model's choice (log 34). -/
def State.automaticSweep (s : State) : State :=
  if s.abm.config.sweepInterval = 0 then s
  else
    let n := satAdd 255 s.abm.sweepCount 1
    let t := s.withAbm { s.abm with sweepCount := n }
    if s.abm.config.sweepInterval ≤ n ∧ s.abm.sweep.active = false then t.beginSweep else t

/-- The cycle number advances and a new budget is counted from 0, in the BEACON phase (R126 steps 1, 2 and 6). -/
def Abm.newCycle (a : Abm) : Abm :=
  { a with cycleNumber := a.cycleNumber + 1, cycle := some ⟨.beacon, a.config.cycleLength * 2400, 0, 0, none⟩, activity := .beacon }

/-- The beacon instant (R126), which ends the cycle in progress if there is one. -/
def State.beginCycle (s : State) : State :=
  let t := s.deferRest.noteOverrun
  (((t.withAbm t.abm.newCycle).closeArmed .cycleEnd).countBus .addCycle).automaticSweep

/-- After an attempt or a wait with nothing handed to the ATU: a sweep takes its next step (R139), and a cycle whose budget has run out
ends with the next beacon instant (R129). -/
def State.proceed (s : State) : State :=
  let t :=
    match s.abm.cycle with
    | some c => if c.phase = Phase.sweep then s.sweepStep else s
    | none => s
  match t.abm.cycle, t.abm.activity with
  | some c, .none => if c.spent then t.beginCycle else t
  | _, _ => t

/-! ### The stop (R125) -/

/-- The sweep waits no more for a handed act. -/
def HandedAct.detach : HandedAct → HandedAct
  | .learn _ h => .learn none h
  | .setToggle _ x => .setToggle none x
  | .accept r => .accept r
  | .miss x => .miss x

/-- The bus stop takes effect (R125, R17). -/
def State.busStop (s : State) : State :=
  let t := s.closeArmed .busStop
  let u := if t.abm.sweep.active then t.endSweep .abortedStop else t
  (u.withAbm { u.abm with bus := .off, cycle := none, activity := .none }).hand (u.atu.handed.map HandedAct.detach)

/-- The stop waits for an attempt, a BEACON frame, or a learning of the sweep (R125). -/
def State.stopWaits (s : State) : Bool :=
  s.abm.activity != .none ||
    match s.atu.handed with
    | some (.learn (some _) _) => true
    | _ => false

/-- A pending stop takes effect, else the cycle proceeds when nothing is handed or in hand. -/
def State.stopOrProceed (s : State) : State :=
  if s.abm.bus = .stopping then (if s.stopWaits then s else s.busStop)
  else if s.atu.handed = none ∧ s.abm.activity = .none then s.proceed
  else s

/-! ### The end of an attempt (R120, R132, R135, R139, R142) -/

/-- The length of an attempt by its outcome (R120). -/
def attemptLength : Transaction → AttemptReply → Nat
  | .read _ _, .timedOut => 143
  | .read _ _, .reading d _ => 110 + d + 165 + 11
  | .read _ _, _ => 308
  | .rollCall _, .timedOut => 176
  | .rollCall _, .here d _ => 143 + d + 121 + 11
  | .rollCall _, _ => 297
  | .enroll _ _, .timedOut => 132
  | .enroll _ _, .enrolled d _ => 99 + d + 99 + 11
  | .enroll _ _, _ => 231

/-- The READ transaction has ended: the cursor moves to its entry (R130). -/
def State.readDone (s : State) (serial : Serial) : State := s.updCycle fun c => { c with cursor := some serial }

/-- A failed READ attempt (R135): a retry, a deferral, or a miss. A stop leaves the rotation position as it was (log 11). -/
def State.readFailed (s : State) (serial : Serial) (e : Bool) (number : Nat) : State :=
  if number ≤ s.abm.config.retryLimit then
    if s.canStart then s.startAttempt (.read serial e) (number + 1)
    else if s.abm.bus = .stopping then s
    else (s.withRotation serial).toPhase .wait
  else (s.readDone serial).hand (some (.miss serial))

/-- The counter of a READ attempt's outcome (R132). -/
def readCount (serial : Serial) (e : Bool) : AttemptReply → BusCounters → BusCounters
  | .timedOut => .addTimeout
  | .reading _ r =>
    if r.serial ≠ serial then .addWrongResponder
    else if r.status = .busy then id
    else if r.toggle ≠ e then .addDuplicate
    else id
  | .damaged | .here _ _ | .enrolled _ _ => .addCrcError

/-- What follows a READ attempt whose entry is present (R132 to R135). -/
def State.readOutcome (s : State) (serial : Serial) (e : Bool) (number : Nat) (reply : AttemptReply) : State :=
  match reply with
  | .reading _ r =>
    if r.serial ≠ serial ∨ r.status = .busy then s.readFailed serial e number
    else if r.toggle ≠ e then s.readDone serial
    else (s.readDone serial).hand (some (.accept r))
  | .timedOut | .damaged | .here _ _ | .enrolled _ _ => s.readFailed serial e number

/-- The end of a READ attempt: counted, and abandoned when its entry has been removed (R137, log 12). -/
def State.readEnd (s : State) (serial : Serial) (e : Bool) (number : Nat) (reply : AttemptReply) : State :=
  let t := s.countBus (readCount serial e reply)
  if (t.node? serial).isNone then t.readDone serial else t.readOutcome serial e number reply

/-- The end of a ROLL CALL (R139 to R141, R143). -/
def State.rollCallEnd (s : State) (r : Range) (reply : AttemptReply) : State :=
  match reply with
  | .timedOut => s.countBus .addTimeout
  | .here _ h =>
    if r.holds h.serial then s.hand (some (.learn (some r) h)) else s.countBus .addWrongResponder
  | .damaged | .reading _ _ | .enrolled _ _ => (s.countBus .addCrcError).splitRange r true

/-- A failed ENROLL attempt (R142): a retry, the range put back, or the range split without counting a collision. -/
def State.enrollFailed (s : State) (r : Range) (serial : Serial) (number : Nat) : State :=
  if number ≤ s.abm.config.retryLimit then
    if s.canStart then s.startAttempt (.enroll r serial) (number + 1) else (s.pushBack r).toPhase .wait
  else s.splitRange r false

/-- The end of an ENROLL attempt (R142). -/
def State.enrollEnd (s : State) (r : Range) (serial : Serial) (number : Nat) (reply : AttemptReply) : State :=
  match reply with
  | .timedOut => (s.countBus .addTimeout).enrollFailed r serial number
  | .enrolled _ x =>
    if x = serial then s.hand (some (.setToggle (some r) serial))
    else (s.countBus .addWrongResponder).enrollFailed r serial number
  | .damaged | .reading _ _ | .here _ _ => (s.countBus .addCrcError).enrollFailed r serial number

/-- The outcome of an attempt is classified (R132, R139, R142). -/
def State.judge (s : State) (t : Transaction) (number : Nat) (reply : AttemptReply) : State :=
  match t with
  | .read serial e => s.readEnd serial e number reply
  | .rollCall r => s.rollCallEnd r reply
  | .enroll r serial => s.enrollEnd r serial number reply

/-- The stop that waited for an attempt takes effect at its end, also when the attempt has handed an act over (R125, log 11). -/
def State.afterAttempt (s : State) : State := if s.abm.bus = .stopping then s.busStop else s.stopOrProceed

/-! ### Reception (R120) -/

/-- The bit times from the beginning of an attempt to the end of its reception: all of it but the gap (R120). -/
def receptionLength (t : Transaction) (reply : AttemptReply) : Nat := attemptLength t reply - 11

/-- The reception can still end with this outcome: no more bit times have been counted than it lasts (log 6). -/
def State.inTime (s : State) (t : Transaction) (reply : AttemptReply) : Bool :=
  match s.abm.cycle with
  | some c => decide (c.passed ≤ receptionLength t reply)
  | none => true

/-- `n` bit times have been counted since the last bus event (log 6). -/
def State.countTo (s : State) (n : Nat) : State := s.updCycle fun c => { c with passed := n }

/-- The reception of the attempt in flight ends with this outcome, when it is still open and the transaction is of the right kind: its bit times
have then passed (R120, R123). -/
def State.receive (s : State) (kind : Transaction → Bool) (reply : AttemptReply) : State :=
  match s.abm.activity with
  | .attempt t n none =>
    if s.mainRuns && kind t && s.inTime t reply then (s.countTo (receptionLength t reply)).withActivity (.attempt t n (some reply)) else s
  | _ => s

/-- The transaction is a READ. -/
def Transaction.isRead : Transaction → Bool
  | .read _ _ => true
  | .rollCall _ | .enroll _ _ => false

/-- The transaction is a ROLL CALL. -/
def Transaction.isRollCall : Transaction → Bool
  | .rollCall _ => true
  | .read _ _ | .enroll _ _ => false

/-- The transaction is an ENROLL. -/
def Transaction.isEnroll : Transaction → Bool
  | .enroll _ _ => true
  | .read _ _ | .rollCall _ => false

/-- A received frame judged whole: its content when it is valid, else damaged (R119). -/
def orDamaged {α : Type} (content : Option α) (f : α → AttemptReply) : AttemptReply :=
  match content with
  | some x => f x
  | none => .damaged

/-! ### The frame the ABM sends (R118, R199) -/

/-- The request frame of a transaction (R199). -/
def Transaction.frame : Transaction → List Byte
  | .read serial e => busFrame 0x02#8 (bytes32 serial ++ [if e then 1#8 else 0#8])
  | .rollCall r => busFrame 0x03#8 (bytes32 r.lo ++ bytes32 r.hi)
  | .enroll _ serial => busFrame 0x04#8 (bytes32 serial)

/-- The frame of the work in hand: none when nothing is being sent or answered (R118, log 17). -/
def State.busFrame? (s : State) : Option (List Byte) :=
  match s.abm.activity with
  | .beacon => some (busFrame 0x01#8 (bytes16 s.abm.cycleNumber))
  | .attempt t _ none => some t.frame
  | .attempt _ _ (some _) | .learning _ _ | .none => none

/-- The levels of one byte on the bus, bit time by bit time, true at the mark level: start bit, data bits from the least significant, parity,
stop bit (R118). -/
def busBits (b : Byte) : List Bool := [false, b[0], b[1], b[2], b[3], b[4], b[5], b[6], b[7], evenParity b, true]

/-- The levels of the frame that the ABM sends, its bytes back to back (R118): none while the bus is OFF or the main domain does not run. -/
def State.busLevels (s : State) : List Bool :=
  if s.mainRuns && s.abm.bus != .off then (s.busFrame?.getD []).flatMap busBits else []

/-- The transmit pin `t` bit times after the frame in hand began: at the mark level outside a frame (R118, log 17). -/
def State.busTransmit (s : State) (t : Nat) : Bool := s.busLevels.getD t true

/-- The driver enable `t` bit times after the frame in hand began: from the first start bit to the end of the last stop bit, and so released
in the reply window and the gap (R118, log 17). -/
def State.driverEnabled (s : State) (t : Nat) : Bool := decide (t < s.busLevels.length)

/-! ### The meanings -/

/-- The beacon instant has come without an attempt or a wait in hand (R126, log 28). -/
def State.beaconDue (s : State) : Bool :=
  s.mainRuns && s.abm.bus == .running && s.abm.activity == .none && s.atu.handed.isNone &&
    match s.abm.cycle with
    | some c => c.phase == .wait || (c.spent && !s.opInProgress)
    | none => false

/-- BEACON_INSTANT (R126). -/
def execBeaconInstant (s : State) : Host.Outcome State Fault Refusal :=
  .next (if s.beaconDue then s.beginCycle else s)

/-- The BEACON frame has ended (R125, R127): POLL begins, and ends at once when no entry is present and nothing is left to the ATU (log 29). -/
def State.beaconSent (s : State) : State :=
  let t := (s.elapse 77).withActivity .none
  if t.abm.bus = .stopping then t.busStop
  else
    let u := t.updCycle fun c => { c with phase := .poll, cursor := none }
    if !u.opInProgress && u.atu.handed.isNone && u.presentNodes.isEmpty then u.endPoll else u

/-- BEACON_SENT (R127). -/
def execBeaconSent (s : State) : Host.Outcome State Fault Refusal :=
  .next (if s.mainRuns && s.abm.activity == .beacon then s.beaconSent else s)

/-- The ABM needs its next poll entry and no Node Table operation makes it wait (R130). -/
def State.pollReady (s : State) : Bool :=
  s.mainRuns && s.abm.bus == .running && s.abm.activity == .none && s.atu.handed.isNone && !s.opInProgress

/-- The next poll entry is taken (R130, R131): its first attempt starts, the guard defers it (log 10), or POLL ends. -/
def State.pollNext (s : State) (c : Cycle) : State :=
  match s.nextEntry c with
  | none => s.endPoll
  | some e =>
    if s.canStart then (s.countBus .addTransaction).startAttempt (.read e.serial e.toggle) 1
    else (s.withRotation e.serial).toPhase .wait

/-- READ_TRANSACTION_START (R131). -/
def execReadTransactionStart (s : State) : Host.Outcome State Fault Refusal :=
  .next (match s.abm.cycle with
    | some c => if s.pollReady && c.phase == .poll then s.pollNext c else s
    | none => s)

/-- READING: a reply to a READ ends its reception, valid or damaged (R119, R120, log 33). -/
def execReading (delay : Fin 23) (frame : List BusByte) (s : State) : Host.Outcome State Fault Refusal :=
  .next (s.receive Transaction.isRead (orDamaged (readingOf frame) (.reading delay.val)))

/-- HERE: a reply to a ROLL CALL ends its reception (R119, R120). -/
def execHere (delay : Fin 23) (frame : List BusByte) (s : State) : Host.Outcome State Fault Refusal :=
  .next (s.receive Transaction.isRollCall (orDamaged (hereOf frame) (.here delay.val)))

/-- ENROLLED: a reply to an ENROLL ends its reception (R119, R120). -/
def execEnrolled (delay : Fin 23) (frame : List BusByte) (s : State) : Host.Outcome State Fault Refusal :=
  .next (s.receive Transaction.isEnroll (orDamaged (enrolledOf frame) (.enrolled delay.val)))

/-- REPLY_TIMEOUT: no reply began within 22 bit times (R120). -/
def execReplyTimeout (s : State) : Host.Outcome State Fault Refusal :=
  .next (s.receive (fun _ => true) .timedOut)

/-- REPLY_WINDOW_CLOSE: the window closes over a damaged or incomplete reply (R120). -/
def execReplyWindowClose (s : State) : Host.Outcome State Fault Refusal :=
  .next (s.receive (fun _ => true) .damaged)

/-- The end of the attempt in flight: its time, its outcome and what follows. -/
def State.attemptEnd (s : State) (t : Transaction) (number : Nat) (reply : AttemptReply) : State :=
  ((((s.elapse (attemptLength t reply)).withActivity .none).judge t number reply)).afterAttempt

/-- ATTEMPT_END (R120, R132, R139, R142). -/
def execAttemptEnd (s : State) : Host.Outcome State Fault Refusal :=
  .next (match s.abm.activity with
    | .attempt t n (some reply) => if s.mainRuns then s.attemptEnd t n reply else s
    | _ => s)

end Sys2Proof.Machine
end

