-- ==== Sys2Proof/Machine/Zones.lean ====
section
/-! DEFINITION. The zone requests, prices, the current band and SETTLE (R6 to R21, R179). -/

namespace Sys2Proof.Machine

/-- The zone number check of R8. -/
def withZone (zone : Byte) (s : State) (k : ZoneNo → Answer) : Answer :=
  match zoneOf zone with
  | none => refuse .badIndex s
  | some z => k z

/-- The zone-state check of R8 for a request that only an OPEN zone accepts: BUSY while ARMED, QUEUED or SETTLING, WRONG_STATE in UNUSED. -/
def whenOpen (z : ZoneNo) (s : State) (k : Unit → Answer) : Answer :=
  if s.zones[z].state.busy then refuse .busy s
  else if s.zones[z].state = .unused then refuse .wrongState s
  else k ()

/-- DEFINE ZONE (R9). -/
def defineZoneOwner (zone mode : Byte) (fixedShare : Word16) (external : Byte) (s : State) : Answer :=
  withZone zone s fun z =>
    match modeOf mode, externalOf external with
    | some m, some x =>
      if 1000 < fixedShare.toNat then refuse .badValue s
      else if s.zones[z].state.busy then refuse .busy s
      else if s.zones[z].state = .unused then
        accept (.zoneDefinition z .opened m fixedShare.toNat x)
          (s.updZone z fun r =>
            { r with state := .opened, mode := m, fixedShare := fixedShare.toNat, external := x, members := [], openU := .zero,
                     closing := .zero, armed := .absent })
      else if m ≠ s.zones[z].mode ∧ s.assigned z ≠ [] then refuse .wrongState s
      else
        accept (.zoneDefinition z .opened m fixedShare.toNat x)
          (s.updZone z fun r => { r with mode := m, fixedShare := fixedShare.toNat, external := x })
    | _, _ => refuse .badValue s

/-- DELETE ZONE (R10). -/
def deleteZoneOwner (zone : Byte) (s : State) : Answer :=
  withZone zone s fun z => whenOpen z s fun _ =>
    if s.assigned z ≠ [] ∨ s.zones[z].members ≠ [] ∨ s.zones[z].openU ≠ .zero then refuse .wrongState s
    else accept (.zoneState z .unused) (s.updZone z fun r => { r with state := .unused })

/-- A member inserted at its place in ascending account order (R11). -/
def insertMember (m : Member) : List Member → List Member
  | [] => [m]
  | x :: xs => if m.account < x.account then m :: x :: xs else x :: insertMember m xs

/-- ADD MEMBER (R11). -/
def addMemberOwner (zone account : Byte) (area : Word16) (s : State) : Answer :=
  withZone zone s fun z =>
    match accountOf account with
    | none => refuse .badValue s
    | some a =>
      if area.toNat = 0 then refuse .badValue s
      else whenOpen z s fun _ =>
        if s.accounts[a] = .free ∨ a = 0 then refuse .wrongState s
        else if s.zones[z].hasMember a then refuse .conflict s
        else if 32 ≤ s.zones[z].members.length then refuse .full s
        else
          accept (.memberCount z a (s.zones[z].members.length + 1))
            (s.updZone z fun r => { r with members := insertMember ⟨a, area.toNat, .zero, .zero⟩ r.members })

/-- A removed member's open W joins the unattributed pool: U's flag is set when the addition saturates or the member's own was (R12). -/
def Accum.absorb (u w : Accum) : Accum :=
  ⟨satAdd lim48 u.value w.value, u.saturated || overflows lim48 u.value w.value || w.saturated⟩

/-- REMOVE MEMBER (R12). -/
def removeMemberOwner (zone account : Byte) (s : State) : Answer :=
  withZone zone s fun z =>
    match accountOf account with
    | none => refuse .badValue s
    | some a =>
      whenOpen z s fun _ =>
        match findMember a s.zones[z].members with
        | none => refuse .conflict s
        | some m =>
          let rest := s.zones[z].members.filter (fun x => x.account != a)
          accept (.memberCount z a rest.length)
            (s.updZone z fun r => { r with members := rest, openU := r.openU.absorb m.openW })

/-- The zone record of READ ZONE from a first member index (R14). -/
def State.zoneReply (s : State) (z : ZoneNo) (first : Nat) : ZoneReply :=
  let r := s.zones[z]
  ⟨z, r.state, r.mode, r.fixedShare, r.external, s.assigned z, r.armed, r.lastCause, r.cycleAtClose, r.number, r.openU, r.closing.u,
    r.members.length, s.band, s.prices.get r.mode, (r.members.drop first).take 12⟩

/-- READ ZONE (R14). -/
def readZoneOwner (zone first : Byte) (s : State) : Answer :=
  withZone zone s fun z =>
    if 31 < first.toNat then refuse .badValue s else accept (.zoneRecord (s.zoneReply z first.toNat)) s

/-- SET PRICES (R20). -/
def setPricesOwner (mode : Byte) (p0 p1 p2 p3 : Word16) (s : State) : Answer :=
  match modeOf mode with
  | none => refuse .badValue s
  | some m =>
    let table := s.prices.put m #v[p0.toNat, p1.toNat, p2.toNat, p3.toNat]
    accept (.prices table) (s.withPrices table)

/-- SET BAND (R21). -/
def setBandOwner (band : Byte) (s : State) : Answer :=
  match bandOf band with
  | none => refuse .badValue s
  | some b => accept (.band b) (s.withBand b)

/-! ### SETTLE -/

/-- The terms of a SETTLE entry (R15). -/
def entryTerms (e : SettleEntry) : CloseTerms :=
  ⟨e.standing.map BitVec.toNat, e.energies.map (fun v => bandwise (fun b => v[b].toNat))⟩

/-- One entry of SETTLE (R15): its status and the state after it. The first condition that holds decides. -/
def State.settleEntry (s : State) (e : SettleEntry) : Status × State :=
  match zoneOf e.zone with
  | none => (.badIndex, s)
  | some z =>
    if 1 < e.timing.toNat then (.badValue, s)
    else if s.zones[z].state = .unused then (.wrongState, s)
    else if s.zones[z].state.busy then (.busy, s)
    else if s.zones[z].external && e.energies.isNone then (.badValue, s)
    else if !s.zones[z].external && e.energies.isSome then (.badValue, s)
    else if e.timing = 0#8 then (.ok, s.closeZone z .immediate (entryTerms e))
    else if s.abm.bus = .off then (.noCycle, s)
    else (.ok, s.updZone z fun r => { r with state := .armed, armed := (entryTerms e) })

/-- The entries of SETTLE, each one whole before the next (R15). -/
def State.settleEntries (s : State) : List SettleEntry → List Status × State
  | [] => ([], s)
  | e :: es =>
    let (st, s1) := s.settleEntry e
    let (sts, s2) := s1.settleEntries es
    (st :: sts, s2)

/-- SETTLE (R15, R179): a body without a layout, with no entry or with more than 16 is refused as a whole. -/
def settleOwner (body : SettleBody) (s : State) : Answer :=
  match body with
  | .malformed _ => refuse .badValue s
  | .entries es =>
    if es.length = 0 ∨ 16 < es.length then refuse .badValue s
    else
      let (sts, t) := s.settleEntries es
      accept (.entryStatuses sts) t

/-! ### The meanings -/

/-- DEFINE_ZONE (R9). -/
def execDefineZone (zone mode : Byte) (fixedShare : Word16) (external : Byte) (s : State) : Host.Outcome State Fault Refusal :=
  .next (s.take (.defineZone zone mode fixedShare external) 0x20 (defineZoneOwner zone mode fixedShare external))

/-- DELETE_ZONE (R10). -/
def execDeleteZone (zone : Byte) (s : State) : Host.Outcome State Fault Refusal :=
  .next (s.take (.deleteZone zone) 0x21 (deleteZoneOwner zone))

/-- ADD_MEMBER (R11). -/
def execAddMember (zone account : Byte) (area : Word16) (s : State) : Host.Outcome State Fault Refusal :=
  .next (s.take (.addMember zone account area) 0x22 (addMemberOwner zone account area))

/-- REMOVE_MEMBER (R12). -/
def execRemoveMember (zone account : Byte) (s : State) : Host.Outcome State Fault Refusal :=
  .next (s.take (.removeMember zone account) 0x23 (removeMemberOwner zone account))

/-- READ_ZONE (R14). -/
def execReadZone (zone first : Byte) (s : State) : Host.Outcome State Fault Refusal :=
  .next (s.take (.readZone zone first) 0x24 (readZoneOwner zone first))

/-- SET_PRICES (R20). -/
def execSetPrices (mode : Byte) (p0 p1 p2 p3 : Word16) (s : State) : Host.Outcome State Fault Refusal :=
  .next (s.take (.setPrices mode p0 p1 p2 p3) 0x28 (setPricesOwner mode p0 p1 p2 p3))

/-- SET_BAND (R21). -/
def execSetBand (band : Byte) (s : State) : Host.Outcome State Fault Refusal :=
  .next (s.take (.setBand band) 0x29 (setBandOwner band))

/-- SETTLE (R15). -/
def execSettle (body : SettleBody) (s : State) : Host.Outcome State Fault Refusal :=
  .next (s.take (.settle body) 0x50 (settleOwner body))

end Sys2Proof.Machine
end

