-- ==== Sys2Proof/Machine/Nodes.lean ====
section
/-! DEFINITION. The Attribution Unit (R148 to R169): the acts the bus master hands over, the Node Table operations, and the requests for nodes. -/

namespace Sys2Proof.Machine

/-! ### Counters (R168) -/

def AtuCounters.addResolved (c : AtuCounters) : AtuCounters := { c with resolved := inc32 c.resolved }
def AtuCounters.addMember (c : AtuCounters) : AtuCounters := { c with member := inc32 c.member }
def AtuCounters.addMismatch (c : AtuCounters) : AtuCounters := { c with mismatch := inc32 c.mismatch }
def AtuCounters.addNonMember (c : AtuCounters) : AtuCounters := { c with nonMember := inc32 c.nonMember }
def AtuCounters.addUnassigned (c : AtuCounters) : AtuCounters := { c with unassigned := inc32 c.unassigned }
def AtuCounters.addQuarantined (c : AtuCounters) : AtuCounters := { c with quarantined := inc32 c.quarantined }
def AtuCounters.addSaturated (c : AtuCounters) : AtuCounters := { c with saturated := inc32 c.saturated }

/-! ### The acceptance act (R133, R155 to R160) -/

/-- The ABM's steps of the act, and the record of the reading (R133 steps 1 to 3, R155). -/
def NodeEntry.record (cycle : Word16) (r : Reading) (e : NodeEntry) : NodeEntry :=
  { e with
    toggle := !e.toggle
    misses := 0
    state := if e.state = .silent then .active else e.state
    lastUnits := some r.units
    lastStatus := some (if r.status = .tamper then .tamper else .ok)
    lastCycle := some cycle }

/-- The greatest quarantine tally. -/
def tallyLimit : Nat := 2 ^ 24 - 1

/-- Units added to the quarantine tally (R158). -/
def NodeEntry.quarantine (units : Nat) (e : NodeEntry) : NodeEntry :=
  { e with tally := satAdd tallyLimit e.tally units, tallySaturated := e.tallySaturated || overflows tallyLimit e.tally units }

/-- A TAMPER reading makes the entry HALTED, with NODE_HALTED when it was not (R158). -/
def State.halt (s : State) (e : NodeEntry) : State :=
  if e.state = .halted then s
  else (s.updNode e.serial fun x => { x with state := .halted }).flag .raiseNodeHalted

/-- The reading's units join the orphan total (R156). -/
def State.orphaned (s : State) (units : Nat) : State :=
  (s.withAtu { s.atu with orphan := satAdd lim48 s.atu.orphan units }).countTotal .addZoneInvalid

/-- The entry moves to the zone reported (R157). -/
def State.migrate (s : State) (e : NodeEntry) (z : ZoneNo) : State :=
  if e.zone = z then s else (s.updNode e.serial fun x => { x with zone := z }).countTotal .addMigration

/-- The units join the entry's quarantine tally (R158). -/
def State.quarantined (s : State) (serial : Serial) (units : Nat) : State :=
  (s.updNode serial (NodeEntry.quarantine units)).countAtu .addQuarantined

/-- The units go through the points to a member's W or the zone's U (R159, R160). -/
def State.attribute (s : State) (r : Reading) : State :=
  match s.matchingPoint r.serial r.zone with
  | none => (s.addU r.zone (r.units * 1000)).countAtu .addUnassigned
  | some i =>
    let p := s.points[i]
    if p.kind ≠ r.kind then (s.addU r.zone (r.units * 1000)).countAtu .addMismatch
    else if s.zones[r.zone].hasMember p.account then (s.addW r.zone p.account (r.units * p.factor)).countAtu .addMember
    else (s.addU r.zone (r.units * 1000)).countAtu .addNonMember

/-- The destination of the units, by the first case of R155 that holds; `e` is the entry as the record of the reading left it. -/
def State.destination (s : State) (e : NodeEntry) (r : Reading) : State :=
  if s.zones[r.zone].state = .unused then
    (if r.status = .tamper then s.halt e else s).orphaned r.units
  else
    let t := s.migrate e r.zone
    if r.status = .tamper then (t.halt e).quarantined r.serial r.units
    else if e.state = .halted then t.quarantined r.serial r.units
    else t.attribute r

/-- The counts of every accepted reading (R155). -/
def countAccepted (units : Nat) (c : AtuCounters) : AtuCounters :=
  if units = 65535 then c.addResolved.addSaturated else c.addResolved

/-- The acceptance act (R133, R155), taken against the table as it stands (R150). That one whose entry is gone is dropped, its units with no
destination and no count, as R153 says of a miss, is the model's choice (log 32). -/
def State.accepted (s : State) (r : Reading) : State :=
  match s.node? r.serial with
  | none => s
  | some e =>
    ((s.updNode r.serial (NodeEntry.record s.abm.cycleNumber r)).countAtu (countAccepted r.units)).destination
      (e.record s.abm.cycleNumber r) r

/-! ### The miss act (R136, R153) -/

/-- The entry's misses counted, and SILENT at the silent limit (R136 steps 1 and 2). -/
def NodeEntry.miss (silentLimit : Nat) (e : NodeEntry) : NodeEntry :=
  { e with
    misses := satAdd 255 e.misses 1
    state := if e.state = .active ∧ silentLimit ≤ satAdd 255 e.misses 1 then .silent else e.state }

/-- The miss act, dropped when its entry is gone (R153). -/
def State.missed (s : State) (serial : Serial) : State :=
  match s.node? serial with
  | none => s
  | some e =>
    let m := e.miss s.abm.config.silentLimit
    let t := s.updNode serial (NodeEntry.miss s.abm.config.silentLimit)
    let u := if e.state = .active ∧ m.state = .silent then t.flag .raiseNodeSilent else t
    if m.state = .silent ∧ s.abm.config.ageLimit ≤ m.misses then u.withAtu { u.atu with op := some (.removal serial .aging) } else u

/-! ### Learning (R151, R152) and the expected toggle (R142) -/

/-- The greatest entry count (R148). -/
def nodeCapacity : Nat := 384

/-- A present entry updated from a HERE (R152). -/
def NodeEntry.relearn (h : HereReply) (e : NodeEntry) : NodeEntry :=
  if e.state = .halted then { e with zone := h.zone, kind := h.kind, toggle := true }
  else { e with zone := h.zone, kind := h.kind, toggle := true, state := .active, misses := 0 }

/-- Learning, with the bus master's action on its result (R141, R151). `r` is the sweep's popped range, none when no sweep waits. -/
def State.learn (s : State) (r : Option Range) (h : HereReply) : State :=
  if s.zones[h.zone].state = .unused then
    let t := s.countTotal .addZoneInvalid
    match r with
    | some g => t.splitRange g false
    | none => t
  else if (s.node? h.serial).isSome then
    let t := s.updNode h.serial (NodeEntry.relearn h)
    match r with
    | some g => t.startEnroll g h.serial
    | none => t
  else if nodeCapacity ≤ s.nodes.length then
    let t := s.countTotal .addTableFull
    match r with
    | some _ => (t.endSweep .abortedTableFull).flag .raiseNodeTableFull
    | none => t
  else
    let t := s.withAtu { s.atu with op := some (.insertion h) }
    match r with
    | some g => t.withActivity (.learning g h.serial)
    | none => t

/-- The ATU sets an entry's expected toggle to 1, nothing when the entry is gone (log 32), and the sweep's range goes back on the stack (R142). -/
def State.setToggle (s : State) (r : Option Range) (serial : Serial) : State :=
  let t := s.updNode serial fun e => { e with toggle := true }
  match r with
  | some g => t.pushBack g
  | none => t

/-! ### The end of a Node Table operation (R150) -/

/-- The bus master waits for the operation, and its time counts against the budget (R129, R130, log 5). -/
def State.busWaits (s : State) : Bool :=
  match s.abm.cycle with
  | none => false
  | some c =>
    match s.abm.activity with
    | .learning _ _ => true
    | .none => s.atu.handed.isSome || c.phase == .poll
    | .beacon | .attempt _ _ _ => false

/-- The change is made to the table in one step (R150). -/
def State.tableChanged (s : State) (op : NodeOp) : State :=
  let t := s.withAtu { s.atu with op := none }
  match op with
  | .insertion h => t.withNodes (insertNode (.learned h) t.nodes)
  | .removal serial _ => t.withNodes (t.nodes.filter fun e => e.serial != serial)

/-- The reply of FORGET NODE is formed when its removal ends (R154). -/
def State.forgetReply (s : State) (op : NodeOp) : State :=
  match op, s.link.receiver with
  | .removal serial .forget, .processTaken type => s.reply type .ok (.forgotten serial s.nodes.length)
  | _, _ => s

/-- The insertion a sweep waited for has ended: ENROLL follows (R141). -/
def State.afterInsertion (s : State) : State :=
  match s.abm.activity with
  | .learning g serial => (s.withActivity .none).startEnroll g serial
  | .none | .beacon | .attempt _ _ _ => s

/-- The bit times counted since the last bus event (log 6). -/
def State.counted (s : State) : Nat :=
  match s.abm.cycle with
  | some c => c.passed
  | none => 0

/-- A Node Table operation ends, `waited` bit times after the bus master began to wait for it, or as many as have been counted if that is more. -/
def State.opEnded (s : State) (op : NodeOp) (waited : Nat) : State :=
  let w := s.busWaits
  let t := (((if w then s.elapse (max waited s.counted) else s).tableChanged op).forgetReply op).afterInsertion
  if w then t.stopOrProceed else t

/-! ### Requests for nodes -/

/-- What a node record says of the point that resolves an entry (R167). -/
def State.resolvingPoint (s : State) (e : NodeEntry) : Option ResolvingPoint :=
  (s.matchingPoint e.serial e.zone).map fun i =>
    ⟨i, s.points[i].kind, s.points[i].account, s.zones[e.zone].hasMember s.points[i].account⟩

/-- The node record at an index (R167). -/
def State.foundAt (s : State) (i : Nat) : Option FoundNode := s.nodes[i]?.map fun e => ⟨i, e, s.resolvingPoint e⟩

/-- The index a selector and key ask for: none when they are refused (R167). -/
def nodeKey (selector : Byte) (key : BitVec 32) (nodes : List NodeEntry) : Option Nat :=
  match selector.toNat with
  | 0 => if 383 < key.toNat then none else some key.toNat
  | 1 => some (nodes.findIdx fun e => e.serial == key)
  | _ => none

/-- READ NODE (R167). -/
def readNodeOwner (selector : Byte) (key : BitVec 32) (s : State) : Answer :=
  match nodeKey selector key s.nodes with
  | none => refuse .badValue s
  | some i =>
    if s.opInProgress then refuse .notReady s else accept (.nodeRecord s.nodes.length (s.foundAt i)) s

/-- The checks of a TO_POOL release on the entry's zone (R163, check 5). -/
def State.poolObjection (s : State) (d : Disposition) (z : ZoneNo) : Option Status :=
  match d with
  | .discard => none
  | .toPool =>
    if s.zones[z].state = .unused then some .wrongState else if s.zones[z].state.busy then some .busy else none

/-- The tally released (R163). -/
def State.dispose (s : State) (d : Disposition) (e : NodeEntry) : State :=
  match d with
  | .discard => s.withAtu { s.atu with discarded := satAdd lim48 s.atu.discarded e.tally }
  | .toPool => s.updZone e.zone fun r => { r with openU := r.openU.absorb ⟨e.tally * 1000, e.tallySaturated⟩ }

/-- RELEASE NODE (R163). -/
def releaseNodeOwner (serial : Serial) (disposition : Byte) (s : State) : Answer :=
  match dispositionOf disposition with
  | none => refuse .badValue s
  | some d =>
    if s.opInProgress then refuse .notReady s
    else
      match s.node? serial with
      | none => refuse .badIndex s
      | some e =>
        if e.state ≠ .halted then refuse .wrongState s
        else
          match s.poolObjection d e.zone with
          | some st => refuse st s
          | none =>
            accept (.released serial d e.tally)
              ((s.dispose d e).updNode serial fun x => { x with tally := 0, tallySaturated := false, state := .active })

/-- FORGET NODE (R154): the reply waits for the removal. -/
def forgetNodeOwner (serial : Serial) (s : State) : Answer :=
  if s.opInProgress then refuse .notReady s
  else
    match s.node? serial with
    | none => refuse .badIndex s
    | some e =>
      if e.state = .halted then refuse .wrongState s
      else .wait (s.withAtu { s.atu with op := some (.removal serial .forget) })

/-! ### The meanings -/

/-- An act is taken when the main domain runs and no Node Table operation makes it wait (R150). -/
def State.actReady (s : State) : Bool := s.mainRuns && !s.opInProgress

/-- ACCEPTANCE_ACT (R133, R155). -/
def execAcceptanceAct (s : State) : Host.Outcome State Fault Refusal :=
  .next (match s.atu.handed with
    | some (.accept r) => if s.actReady then (s.hand none).accepted r else s
    | _ => s)

/-- MISS_ACT (R136). -/
def execMissAct (s : State) : Host.Outcome State Fault Refusal :=
  .next (match s.atu.handed with
    | some (.miss serial) => if s.actReady then (s.hand none).missed serial else s
    | _ => s)

/-- LEARNING (R141, R151). That a learning which begins no insertion takes 0 bit times from the budget is the model's choice (log 5): R141 says that
learning takes time and gives no figure. -/
def execLearning (s : State) : Host.Outcome State Fault Refusal :=
  .next (match s.atu.handed with
    | some (.learn r h) => if s.actReady then ((s.hand none).learn r h).stopOrProceed else s
    | _ => s)

/-- SET_EXPECTED_TOGGLE (R142), which takes 0 bit times from the budget: the model's choice (log 5). -/
def execSetExpectedToggle (s : State) : Host.Outcome State Fault Refusal :=
  .next (match s.atu.handed with
    | some (.setToggle r serial) => if s.actReady then ((s.hand none).setToggle r serial).stopOrProceed else s
    | _ => s)

/-- NODE_TABLE_OP_END (R150). -/
def execNodeTableOpEnd (waited : Fin 6) (s : State) : Host.Outcome State Fault Refusal :=
  .next (match s.atu.op with
    | some op => if s.mainRuns then s.opEnded op waited.val else s
    | none => s)

/-- READ_NODE (R167). -/
def execReadNode (selector : Byte) (key : BitVec 32) (s : State) : Host.Outcome State Fault Refusal :=
  .next (s.take (.readNode selector key) 0x44 (readNodeOwner selector key))

/-- RELEASE_NODE (R163). -/
def execReleaseNode (serial : Serial) (disposition : Byte) (s : State) : Host.Outcome State Fault Refusal :=
  .next (s.take (.releaseNode serial disposition) 0x45 (releaseNodeOwner serial disposition))

/-- FORGET_NODE (R154). -/
def execForgetNode (serial : Serial) (s : State) : Host.Outcome State Fault Refusal :=
  .next (s.take (.forgetNode serial) 0x46 (forgetNodeOwner serial))

end Sys2Proof.Machine
end

