-- ==== Sys2Proof/Machine/BusControl.lean ====
section
/-! DEFINITION. The requests that configure, start and stop the allocator bus and its sweep (R122 to R125, R138), and the bus status record. -/

namespace Sys2Proof.Machine

/-- How many bit times at most can have passed since the last bus event before the next one comes: the rest of the frame, reception, attempt
or wait in hand (R120, R126, R150). -/
def State.sinceBound (s : State) (c : Cycle) : Nat :=
  match s.abm.activity with
  | .beacon => 77
  | .attempt t _ none => receptionLength t .damaged
  | .attempt t _ (some reply) => attemptLength t reply
  | .learning _ _ => 5
  | .none => if c.phase = .wait then c.budget - c.elapsed else if s.opInProgress then 5 else 0

/-- The bus status record (R123): the remaining budget is the budget less the elapsed time (R128). -/
def State.busStatus (s : State) : BusStatus :=
  ⟨s.abm.bus, s.abm.cycle.map (·.phase), s.abm.cycleNumber, s.abm.cycle.map (fun c => (c.budget : Int) - c.elapsed - c.passed),
    s.abm.rotation, s.abm.sweep.active, s.abm.sweep.stack.length, s.abm.sweepCount, s.abm.lastSweep, s.abm.config⟩

/-- The next free value is drawn (log 21). -/
def State.drawFree (s : State) : State := s.withFreeUses (s.freeUses + 1)

/-- Bus time goes on to the moment a request is taken: by a free number of bit times, within what the work in hand allows, and never back (log 6). -/
def State.letTimePass (s : State) : State :=
  (s.updCycle fun c =>
    { c with passed := max c.passed (min (s.sinceBound c) (c.passed + Config.busTimeSinceEvent s.freeUses)) }).drawFree

/-- The request is carried out and its reply carries the bus status record as it then stands. -/
def acceptBus (s : State) : Answer := accept (.busStatus s.letTimePass.busStatus) s.letTimePass

/-- CONFIGURE BUS with its fields read (R122). -/
def configureBusOwner (fields : Option BusConfig) (s : State) : Answer :=
  match fields with
  | none => refuse .badValue s
  | some cfg =>
    if s.abm.bus ≠ .off then refuse .busy s
    else
      let t := s.withAbm { s.abm with config := cfg }
      accept (.busStatus t.busStatus) t

/-- An act that is still handed over is completed, so that no beacon instant comes before it (R133). While a Node Table operation is in progress
the act waits (R150) and the cycle begins before it, as R124 begins it at once: the model's choice (log 13). -/
def State.completeHanded (s : State) : State :=
  if s.opInProgress then s
  else
    match s.atu.handed with
    | some (.accept r) => (s.hand none).accepted r
    | some (.miss serial) => (s.hand none).missed serial
    | some (.learn r h) => (s.hand none).learn r h
    | some (.setToggle r serial) => (s.hand none).setToggle r serial
    | none => s

/-- The bus is RUNNING, with the rotation position and the sweep count at 0, and its first cycle begins (R124). -/
def State.startBus (s : State) : State :=
  let t := s.completeHanded
  (t.withAbm { t.abm with bus := .running, rotation := 0, sweepCount := 0 }).beginCycle

/-- BUS ON (R124): the record is formed as the beacon begins. -/
def busOnOwner (s : State) : Answer :=
  match s.abm.bus with
  | .stopping => refuse .busy s
  | .running => refuse .wrongState s
  | .off => accept (.busStatus s.startBus.busStatus) s.startBus

/-- A RUNNING bus becomes STOPPING, and the stop takes effect at once when nothing is in hand (R125, log 13). -/
def State.requestStop (s : State) : State :=
  let t := s.withAbm { s.abm with bus := .stopping }
  if t.stopWaits then t else t.busStop

/-- BUS OFF (R125): in OFF and STOPPING it changes nothing. -/
def busOffOwner (s : State) : Answer :=
  match s.abm.bus with
  | .off | .stopping => acceptBus s
  | .running => acceptBus s.requestStop

/-- START SWEEP (R138). -/
def startSweepOwner (s : State) : Answer :=
  if s.abm.bus ≠ .running then refuse .noCycle s
  else if s.abm.sweep.active then refuse .busy s
  else acceptBus s.beginSweep

/-- CONFIGURE_BUS (R122). -/
def execConfigureBus (cycleLength guard : Word16) (retryLimit silentLimit ageLimit sweepInterval : Byte) (s : State) :
    Host.Outcome State Fault Refusal :=
  .next (s.take (.configureBus cycleLength guard retryLimit silentLimit ageLimit sweepInterval) 0x40
    (configureBusOwner (busConfigOf cycleLength guard retryLimit silentLimit ageLimit sweepInterval)))

/-- BUS_ON (R124). -/
def execBusOn (s : State) : Host.Outcome State Fault Refusal :=
  .next (s.take .busOn 0x41 busOnOwner)

/-- BUS_OFF (R125). -/
def execBusOff (s : State) : Host.Outcome State Fault Refusal :=
  .next (s.take .busOff 0x42 busOffOwner)

/-- START_SWEEP (R138). -/
def execStartSweep (s : State) : Host.Outcome State Fault Refusal :=
  .next (s.take .startSweep 0x43 startSweepOwner)

end Sys2Proof.Machine
end

