-- ==== Sys2Proof/Machine/Energy.lean ====
section
/-! DEFINITION. The Energy Integrator: a pulse taken from the PIU (R74 to R80) and a result pair taken from the TCV (R71 to R73). -/

namespace Sys2Proof.Machine

/-- The channel state that mirrors a sensor status (R65). -/
def SensorStatus.channelState : SensorStatus → ChannelState
  | .normal => .running
  | .hold => .hold
  | .substitute => .substitute

/-- The states in which the channel state follows the sensor status (R65). -/
def ChannelState.integrating : ChannelState → Bool
  | .running | .hold | .substitute => true
  | .disabled | .paused => false

/-! ### A pulse -/

/-- The counts and the volume of every pulse taken (R74, R80). -/
def Channel.countPulse (overspeed : Bool) (c : Channel) : Channel :=
  { c with
    volume := satAdd lim48 c.volume c.pulseValue
    counters := { c.counters with
      pulses := inc32 c.counters.pulses
      overspeed := if overspeed then inc32 c.counters.overspeed else c.counters.overspeed } }

/-- The raw temperature difference in centi-degrees (R75). -/
def Channel.rawDT (c : Channel) : Int :=
  match c.mode with
  | .heating => c.flow.value - c.ret.value
  | .cooling => c.ret.value - c.flow.value

/-- A raw difference below 0 counted as reverse, one of 0 or more below min_dT as low (R75). -/
def Channel.countClamp (c : Channel) : Channel :=
  { c with counters := { c.counters with
      reverse := if c.rawDT < 0 then inc32 c.counters.reverse else c.counters.reverse
      low := if 0 ≤ c.rawDT ∧ c.rawDT < c.minDT then inc32 c.counters.low else c.counters.low } }

/-- The measured ΔT after the clamps (R75). -/
def Channel.measuredDT (c : Channel) : Nat := if c.rawDT < c.minDT then 0 else c.rawDT.toNat

/-- The product X (R77). -/
def Channel.product (dT : Nat) (c : Channel) : Nat := c.pulseValue * dT * c.k + c.carry

/-- Energy added to the open half: to the current band, and to the estimated accumulator when it is estimated (R78, R79). -/
def ChannelHalf.add (band : BandNo) (est : Bool) (e : Nat) (h : ChannelHalf) : ChannelHalf :=
  ⟨upd h.bands band (fun a => a.add lim40 e), if est then h.estimated.add lim40 e else h.estimated⟩

/-- The energy of a pulse with this ΔT (R77 to R79). -/
def Channel.integrate (band : BandNo) (est : Bool) (dT : Nat) (c : Channel) : Channel :=
  let e := c.product dT / 100000000
  { c with
    carry := c.product dT % 100000000
    opn := c.opn.add band est e
    energy := satAdd lim48 c.energy e
    estimated := if est then satAdd lim48 c.estimated e else c.estimated }

/-- A paused pulse's volume (R74, R80). -/
def Channel.addPaused (c : Channel) : Channel := { c with pausedVolume := satAdd lim48 c.pausedVolume c.pulseValue }

/-- A pulse before temperature (R74). -/
def Channel.countBefore (c : Channel) : Channel :=
  { c with counters := { c.counters with beforeTemp := inc32 c.counters.beforeTemp } }

/-- Measured energy when both held temperatures are set, else a pulse before temperature (R74, R75). -/
def Channel.measure (band : BandNo) (est : Bool) (c : Channel) : Channel :=
  if c.flow.set && c.ret.set then c.countClamp.integrate band est c.measuredDT else c.countBefore

/-- A pulse taken by the channel (R74); `backup` says that the part is in BACKUP, whose energy is estimated (R79). -/
def Channel.takePulse (band : BandNo) (backup : Bool) (p : Pulse) (c : Channel) : Channel :=
  match c.state with
  | .disabled => c
  | .paused => (c.countPulse p.overspeed).addPaused
  | .running | .hold => (c.countPulse p.overspeed).measure band backup
  | .substitute => (c.countPulse p.overspeed).integrate band true c.fallbackDT

/-- The EIN takes a pulse of channel c: a marked pulse that is not dropped sets OVERSPEED (R74). -/
def State.takePulse (s : State) (c : ChannelNo) (p : Pulse) : State :=
  let t := s.updChannel c (Channel.takePulse s.band (s.ssv.supply == .backup) p)
  if p.overspeed ∧ s.channels[c].state ≠ .disabled then t.flag .raiseOverspeed else t

/-! ### A result pair -/

/-- The component is valid. -/
def SensorResult.isValid : SensorResult → Bool
  | .valid _ _ => true
  | .fault _ => false

/-- A valid component with the clamped indication. -/
def SensorResult.isClamped : SensorResult → Bool
  | .valid _ c => c
  | .fault _ => false

/-- A component written into its held temperature: a fault leaves it (R71). -/
def Held.take (h : Held) : SensorResult → Held
  | .valid t _ => ⟨t, true⟩
  | .fault _ => h

/-- The counter of clamped results after one component (R71). -/
def countClamped (r : SensorResult) (n : Nat) : Nat := if r.isClamped then inc32 n else n

/-- Status, hold count and CHANNEL_FAULT after a pair (R72). -/
def nextStatus (bothValid : Bool) (holdLimit : Nat) (status : SensorStatus) (count : Nat) : SensorStatus × Nat × Bool :=
  if bothValid then (.normal, 0, false)
  else
    match status with
    | .normal => (if holdLimit = 0 then .substitute else .hold, 0, true)
    | .hold => if holdLimit < count + 1 then (.substitute, count + 1, true) else (.hold, count + 1, false)
    | .substitute => (.substitute, count, false)

/-- The status table's row for this channel and pair (R72). -/
def Channel.pairOutcome (holdLimit : Nat) (f r : SensorResult) (c : Channel) : SensorStatus × Nat × Bool :=
  nextStatus (f.isValid && r.isValid) holdLimit c.status c.holdCount

/-- A pair taken by a channel that is not DISABLED (R65, R71, R72). -/
def Channel.takePair (holdLimit : Nat) (f r : SensorResult) (c : Channel) : Channel :=
  let o := c.pairOutcome holdLimit f r
  { c with
    flow := c.flow.take f
    ret := c.ret.take r
    status := o.1
    holdCount := o.2.1
    state := if c.state.integrating then o.1.channelState else c.state
    counters := { c.counters with clamped := countClamped r (countClamped f c.counters.clamped) } }

/-- The EIN takes the pair of channel c; a DISABLED channel is delivered none (R70). -/
def State.takePair (s : State) (c : ChannelNo) (f r : SensorResult) : State :=
  if s.channels[c].state = .disabled then s
  else
    let t := s.updChannel c (Channel.takePair s.tcv.holdLimit f r)
    if (s.channels[c].pairOutcome s.tcv.holdLimit f r).2.2 then t.flag .raiseChannelFault else t

end Sys2Proof.Machine
end

