-- ==== Sys2Proof/Machine/Converter.lean ====
section
/-! DEFINITION. The Temperature Converter (R103 to R117): rounds, gates, classification, conversion, delivery of pairs, and its requests. -/

namespace Sys2Proof.Machine

/-! ### Sensors -/

/-- The channel of a sensor (R103). -/
def sensorChannel (n : SensorNo) : ChannelNo := ⟨n.val / 2, by omega⟩

/-- The sensor is its channel's return sensor (R103). -/
def sensorIsReturn (n : SensorNo) : Bool := n.val % 2 == 1

/-- The sensor is in the scan set (R106). -/
def State.scanned (s : State) (n : SensorNo) : Bool := s.channels[sensorChannel n].state != .disabled

/-- The scan set in ascending sensor number (R106, R107). -/
def State.scanList (s : State) : List SensorNo := allSensors.filter s.scanned

/-- The network driven: that of the gate in flight (R103, log 17). -/
def State.networkDriven (s : State) : Option Gate := if s.ssv.domain = .running then s.tcv.round.map (·.gate) else none

/-! ### Rounds -/

/-- The round state replaced. -/
def State.withRound (s : State) (r : Option Round) : State := s.withTcv { s.tcv with round := r }

/-- The TCV begins the next round at once, or becomes idle when the scan set is empty (R106, R107). -/
def State.beginRound (s : State) : State :=
  if s.scanList = [] then s.withRound none
  else
    s.withTcv { s.tcv with
      roundNumber := s.tcv.roundNumber + 1
      round := some ⟨.reference, s.scanList, s.tcv.gateLength, none, false, none⟩ }

/-- The next gate of the round begins, or the round ends (R107). -/
def State.nextGate (s : State) (r : Round) : State :=
  match r.rest with
  | [] => s.beginRound
  | n :: ns => s.withRound (some { r with gate := .sensor n, rest := ns })

/-- START CHANNEL has added sensors: an idle TCV begins a round (R106). -/
def State.scanSetGrown (s : State) : State := if s.tcv.round = none then s.beginRound else s

/-- STOP CHANNEL has removed channel c's sensors from the scan set: they leave the round list, a gate of theirs in flight is discarded
(R108), and an empty scan set makes the TCV idle (R106, log 18). -/
def State.scanSetShrunk (s : State) (c : ChannelNo) : State :=
  match s.tcv.round with
  | none => s
  | some r =>
    let kept := r.rest.filter (fun n => sensorChannel n != c)
    if s.scanList = [] then s.withRound none
    else
      match r.gate with
      | .reference => s.withRound (some { r with rest := kept })
      | .sensor n =>
        if sensorChannel n = c then s.nextGate { r with rest := kept, flow := none }
        else s.withRound (some { r with rest := kept })

/-! ### Results -/

/-- The ratio term: the nearest integer to a × T_s / T_ref, halves up (R112, steps 1 and 2). -/
def ratioTerm (a ts tref : Nat) : Nat :=
  if 2 * (a * ts % tref) ≥ tref then a * ts / tref + 1 else a * ts / tref

/-- The clamp of step 4 (R112). -/
def clampResult (sum : Int) : SensorResult :=
  if sum < -5000 then .valid (-5000) true else if 15000 < sum then .valid 15000 true else .valid sum false

/-- A valid count converted (R112). -/
def convert (cal : Calibration) (ts tref : Nat) : SensorResult := clampResult ((ratioTerm cal.a ts tref : Int) + cal.b)

/-- The result of a sensor gate that ended with count `ts`, none when it overflowed (R111). -/
def classify (cal : Calibration) (r : Round) (ts : Option Nat) : SensorResult :=
  if r.refFault then .fault .reference
  else
    match ts, r.tref with
    | none, _ => .fault .openCircuit
    | some _, none => .fault .reference
    | some t, some ref =>
      if 2 * ref < t then .fault .openCircuit
      else if 2 * t < ref then .fault .short
      else convert cal t ref

/-- The status of a last result record for a fault (R113). -/
def SensorFault.status : SensorFault → RecordStatus
  | .openCircuit => .openCircuit
  | .short => .short
  | .reference => .reference

/-- The last result record after a gate that ended with this result (R113). -/
def SensorRecord.after (res : SensorResult) (ts tref : Option Nat) (round : Word16) (old : SensorRecord) : SensorRecord :=
  match res with
  | .valid t c => ⟨.valid, c, some t, ts, tref, round, old.tally⟩
  | .fault f => ⟨f.status, false, none, ts, tref, round, satAdd 65535 old.tally 1⟩

/-- The last result record of a sensor written (R113). -/
def State.recordResult (s : State) (n : SensorNo) (r : Round) (ts : Option Nat) (res : SensorResult) : State :=
  s.withTcv { s.tcv with last := upd s.tcv.last n (SensorRecord.after res ts r.tref s.tcv.roundNumber) }

/-- A sensor gate ends with a count or overflows: the result is recorded, a return gate delivers the pair as one act with it (R114),
and the next gate begins. -/
def State.sensorGateEnd (s : State) (n : SensorNo) (r : Round) (ts : Option Nat) : State :=
  let res := classify s.tcv.calibration[n] r ts
  let t := s.recordResult n r ts res
  if sensorIsReturn n then
    match r.flow with
    | some f => (t.takePair (sensorChannel n) f res).nextGate { r with flow := none }
    | none => t.nextGate r
  else t.nextGate { r with flow := some res }

/-- The reference gate ends, with a count or overflowed (R110). -/
def State.referenceGateEnd (s : State) (r : Round) (count : Option Nat) : State :=
  s.nextGate { r with
    tref := count
    refFault := match count with
      | some n => decide (n < 1000)
      | none => true }

/-- The gate in flight, when the main domain runs (R117). -/
def State.gateInFlight (s : State) : Option Round := if s.ssv.domain = .running then s.tcv.round else none

/-! ### Requests -/

/-- CONFIGURE CONVERTER (R104). A hold limit of one byte is never above 255. -/
def configureConverterOwner (gateLength : Word16) (holdLimit : Byte) (s : State) : Answer :=
  match gateLengthOf gateLength with
  | none => refuse .badValue s
  | some n =>
    accept (.converter n holdLimit.toNat (s.tcv.round.map (·.gateLength)))
      (s.withTcv { s.tcv with gateLength := n, holdLimit := holdLimit.toNat })

/-- SET CALIBRATION (R105). A slope of two bytes is never above 65,535. -/
def setCalibrationOwner (sensor : Byte) (a : Word16) (b : BitVec 32) (s : State) : Answer :=
  match sensorOf sensor with
  | none => refuse .badIndex s
  | some n =>
    match offsetOf b with
    | none => refuse .badValue s
    | some o =>
      accept (.calibration n ⟨a.toNat, o⟩)
        (s.withTcv { s.tcv with calibration := s.tcv.calibration.set n ⟨a.toNat, o⟩ })

/-- The sensor record of READ SENSOR (R116). -/
def State.sensorReply (s : State) (n : SensorNo) : SensorReply :=
  ⟨n, sensorChannel n, sensorIsReturn n, s.scanned n, s.tcv.calibration[n], s.tcv.last[n], s.tcv.round.map (·.gate),
    s.tcv.roundNumber, s.tcv.round.map (·.gateLength), s.tcv.gateLength, s.tcv.holdLimit⟩

/-- READ SENSOR (R116). -/
def readSensorOwner (sensor : Byte) (s : State) : Answer :=
  match sensorOf sensor with
  | none => refuse .badIndex s
  | some n => accept (.sensorRecord (s.sensorReply n)) s

/-! ### The meanings -/

/-- CONFIGURE_CONVERTER (R104). -/
def execConfigureConverter (gateLength : Word16) (holdLimit : Byte) (s : State) : Host.Outcome State Fault Refusal :=
  .next (s.take (.configureConverter gateLength holdLimit) 0x16 (configureConverterOwner gateLength holdLimit))

/-- SET_CALIBRATION (R105). -/
def execSetCalibration (sensor : Byte) (a : Word16) (b : BitVec 32) (s : State) : Host.Outcome State Fault Refusal :=
  .next (s.take (.setCalibration sensor a b) 0x17 (setCalibrationOwner sensor a b))

/-- READ_SENSOR (R116). -/
def execReadSensor (sensor : Byte) (s : State) : Host.Outcome State Fault Refusal :=
  .next (s.take (.readSensor sensor) 0x18 (readSensorOwner sensor))

/-- REFERENCE_GATE: the reference gate completes with a count (R110). -/
def execReferenceGate (count : BitVec 24) (s : State) : Host.Outcome State Fault Refusal :=
  .next (match s.gateInFlight with
    | some r =>
      match r.gate with
      | .reference => s.referenceGateEnd r (some count.toNat)
      | .sensor _ => s
    | none => s)

/-- GATE_COMPLETE: a sensor gate completes with a count (R109, R111). -/
def execGateComplete (count : BitVec 24) (s : State) : Host.Outcome State Fault Refusal :=
  .next (match s.gateInFlight with
    | some r =>
      match r.gate with
      | .sensor n => s.sensorGateEnd n r (some count.toNat)
      | .reference => s
    | none => s)

/-- GATE_OVERFLOW: the gate in flight, of the reference or of a sensor, ends with no count (R109). -/
def execGateOverflow (s : State) : Host.Outcome State Fault Refusal :=
  .next (match s.gateInFlight with
    | some r =>
      match r.gate with
      | .reference => s.referenceGateEnd r none
      | .sensor n => s.sensorGateEnd n r none
    | none => s)

end Sys2Proof.Machine
end

