-- ==== Sys2Proof/Machine/Channels.lean ====
section
/-! DEFINITION. The channel requests (R62 to R70, R84, R95, R98, R99). -/

namespace Sys2Proof.Machine

/-- The channel number check of R63 and R66 to R69. -/
def withChannel (channel : Byte) (s : State) (k : ChannelNo → Answer) : Answer :=
  match channelOf channel with
  | none => refuse .badIndex s
  | some c => k c

/-- The ten configuration fields as they stand: six in the channel, four in its input (R62, R86). -/
def State.channelConfig (s : State) (c : ChannelNo) : ChannelConfig :=
  let r := s.channels[c]
  let i := s.inputs[c]
  ⟨r.mode, r.zone, r.pulseValue, r.k, r.minDT, r.fallbackDT, i.minPeriod, i.noFlowLimit, i.filter, i.edge⟩

/-- Both halves are zero with no flag set (R63, check 4). -/
def Channel.halvesZero (c : Channel) : Bool := c.opn == .zero && c.closing == .zero

/-- The checks on the zone named (R63, checks 5 and 6): none when they pass. -/
def State.zoneObjection (s : State) (cfg : ChannelConfig) : Option Status :=
  match cfg.zone with
  | none => none
  | some z =>
    if s.zones[z].state = .unused then some .wrongState
    else if s.zones[z].state.busy then some .busy
    else if s.zones[z].mode ≠ cfg.mode then some .conflict
    else none

/-- The configuration written into the channel and its input (R64). -/
def State.configure (s : State) (c : ChannelNo) (cfg : ChannelConfig) : State :=
  (s.updChannel c fun r =>
    { r with mode := cfg.mode, zone := cfg.zone, pulseValue := cfg.pulseValue, k := cfg.k, minDT := cfg.minDT,
             fallbackDT := cfg.fallbackDT }).updInput c fun i =>
    { i with filter := cfg.filter, edge := cfg.edge, minPeriod := cfg.minPeriod, noFlowLimit := cfg.noFlowLimit }

/-- CONFIGURE CHANNEL with its fields read (R63, R64). -/
def configureChannelOwner (channel : Byte) (fields : Option ChannelConfig) (s : State) : Answer :=
  withChannel channel s fun c =>
    match fields with
    | none => refuse .badValue s
    | some cfg =>
      if s.channels[c].state ≠ .disabled then refuse .wrongState s
      else if !s.channels[c].halvesZero then refuse .wrongState s
      else
        match s.zoneObjection cfg with
        | some st => refuse st s
        | none => accept (.configuration c cfg) (s.configure c cfg)

/-- The channel as START CHANNEL leaves it (R66). -/
def Channel.start (c : Channel) : Channel :=
  { c with state := .running, status := .normal, holdCount := 0, carry := 0,
           flow := { c.flow with set := false }, ret := { c.ret with set := false } }

/-- The input as START CHANNEL leaves it (R98). -/
def Input.start (i : Input) : Input :=
  { i with running := true, accepted := none, candidate := none, stability := 0, counter := 0, lastPeriod := 0, known := false,
           noFlow := false, pulsed := false }

/-- The reply of the state requests. -/
def acceptState (c : ChannelNo) (s : State) : Answer := accept (.channelState c s.channels[c].state) s

/-- START CHANNEL (R66, R98, R106). -/
def startChannelOwner (channel : Byte) (s : State) : Answer :=
  withChannel channel s fun c =>
    if s.channels[c].state ≠ .disabled then refuse .wrongState s
    else if s.channels[c].zone = none then refuse .wrongState s
    else acceptState c ((s.updChannel c Channel.start).updInput c Input.start).scanSetGrown

/-- PAUSE CHANNEL (R68). -/
def pauseChannelOwner (channel : Byte) (s : State) : Answer :=
  withChannel channel s fun c =>
    if s.channels[c].state.integrating then acceptState c (s.updChannel c fun r => { r with state := .paused })
    else refuse .wrongState s

/-- RESUME CHANNEL (R69). -/
def resumeChannelOwner (channel : Byte) (s : State) : Answer :=
  withChannel channel s fun c =>
    if s.channels[c].state = .paused then acceptState c (s.updChannel c fun r => { r with state := r.status.channelState })
    else refuse .wrongState s

/-- The input as STOP CHANNEL leaves it: its record stands, and a pulse in the handover is dropped (R99). -/
def Input.stop (i : Input) : Input := { i with running := false, handover := none }

/-- The stop of a channel that is not DISABLED: its input stops (R99) and its sensors leave the scan set (R108). -/
def State.stopChannel (s : State) (c : ChannelNo) : State :=
  ((s.updChannel c fun r => { r with state := .disabled }).updInput c Input.stop).scanSetShrunk c

/-- STOP CHANNEL (R67): from DISABLED it changes nothing. -/
def stopChannelOwner (channel : Byte) (s : State) : Answer :=
  withChannel channel s fun c =>
    if s.channels[c].state = .disabled then acceptState c s else acceptState c (s.stopChannel c)

/-- The flow rate in L/h (R95). -/
def State.flowRate (s : State) (c : ChannelNo) : Nat :=
  let i := s.inputs[c]
  if i.known && !i.noFlow then s.channels[c].pulseValue * 18432 / (5 * i.lastPeriod) else 0

/-- The channel record (R84). -/
def State.channelRecord (s : State) (c : ChannelNo) : ChannelRecord :=
  let r := s.channels[c]
  let i := s.inputs[c]
  ⟨c, s.channelConfig c, r.state, r.status, r.holdCount, r.flow, r.ret, r.carry, r.opn, r.closing, r.volume, r.energy, r.estimated,
    r.pausedVolume, i.lastPeriod, i.known, i.noFlow, s.flowRate c⟩

/-- READ CHANNEL (R84). -/
def readChannelOwner (channel : Byte) (s : State) : Answer :=
  withChannel channel s fun c => accept (.channelRecord (s.channelRecord c)) s

/-! ### The meanings -/

/-- CONFIGURE_CHANNEL (R63). -/
def execConfigureChannel (channel mode zone : Byte) (pulseValue k minDT fallbackDT minPeriod noFlowLimit : Word16) (filter edge : Byte)
    (s : State) : Host.Outcome State Fault Refusal :=
  .next (s.take (.configureChannel channel mode zone pulseValue k minDT fallbackDT minPeriod noFlowLimit filter edge) 0x10
    (configureChannelOwner channel (channelConfigOf mode zone pulseValue k minDT fallbackDT minPeriod noFlowLimit filter edge)))

/-- START_CHANNEL (R66). -/
def execStartChannel (channel : Byte) (s : State) : Host.Outcome State Fault Refusal :=
  .next (s.take (.startChannel channel) 0x11 (startChannelOwner channel))

/-- PAUSE_CHANNEL (R68). -/
def execPauseChannel (channel : Byte) (s : State) : Host.Outcome State Fault Refusal :=
  .next (s.take (.pauseChannel channel) 0x12 (pauseChannelOwner channel))

/-- RESUME_CHANNEL (R69). -/
def execResumeChannel (channel : Byte) (s : State) : Host.Outcome State Fault Refusal :=
  .next (s.take (.resumeChannel channel) 0x13 (resumeChannelOwner channel))

/-- STOP_CHANNEL (R67). -/
def execStopChannel (channel : Byte) (s : State) : Host.Outcome State Fault Refusal :=
  .next (s.take (.stopChannel channel) 0x14 (stopChannelOwner channel))

/-- READ_CHANNEL (R84). -/
def execReadChannel (channel : Byte) (s : State) : Host.Outcome State Fault Refusal :=
  .next (s.take (.readChannel channel) 0x15 (readChannelOwner channel))

end Sys2Proof.Machine
end

