-- ==== Sys2Proof/Machine/Ledgers.lean ====
section
/-! DEFINITION. The Ledger Store (R48 to R58): postings to a ledger, the pending condition, statements and the two statement requests. -/

namespace Sys2Proof.Machine

/-! ### Postings (R36, R37, R51) -/

/-- The amounts of one posting to one ledger: mode, prices, energy per band and standing amount. -/
structure Posting where
  mode     : Mode
  prices   : Bands Nat
  energy   : Bands Nat
  standing : Nat
  deriving DecidableEq, Repr

/-- The cost of a band (R35). -/
def Posting.cost (p : Posting) (b : BandNo) : Nat := p.energy[b] * p.prices[b]

/-- One ledger changed. -/
def State.updLedger (s : State) (a : AccountNo) (f : Ledger → Ledger) : State := s.withLedgers (upd s.ledgers a f)

/-- An addition of the posting would carry a total of the ledger beyond its limit (R49, R51). -/
def Ledger.saturates (p : Posting) (l : Ledger) : Bool :=
  allBands.any (fun b => overflows lim40 (l.unbilled.energy.get p.mode)[b] p.energy[b] ||
    overflows lim64 (l.unbilled.cost.get p.mode)[b] (p.cost b)) ||
  overflows lim64 l.unbilled.standing p.standing || overflows lim48 (l.lifetime.energy.get p.mode) p.energy.total

/-- The posting's amounts added to the ledger (R36, R49, R51). -/
def Ledger.post (p : Posting) (l : Ledger) : Ledger :=
  { l with
    unbilled := { l.unbilled with
      energy := l.unbilled.energy.put p.mode (bandwise fun b => satAdd lim40 (l.unbilled.energy.get p.mode)[b] p.energy[b])
      cost := l.unbilled.cost.put p.mode (bandwise fun b => satAdd lim64 (l.unbilled.cost.get p.mode)[b] (p.cost b))
      standing := satAdd lim64 l.unbilled.standing p.standing
      saturated := l.unbilled.saturated || l.saturates p }
    lifetime :=
      ⟨l.lifetime.energy.put p.mode (satAdd lim48 (l.lifetime.energy.get p.mode) p.energy.total),
        l.lifetime.saturated.put p.mode
          (l.lifetime.saturated.get p.mode || overflows lim48 (l.lifetime.energy.get p.mode) p.energy.total)⟩ }

/-- The count and flags of a ledger that a settlement has posted to (R39). -/
def Ledger.countSettlement (estimated inputSaturated : Bool) (l : Ledger) : Ledger :=
  { l with unbilled := { l.unbilled with
      count := satAdd 65535 l.unbilled.count 1
      estimated := l.unbilled.estimated || estimated
      saturated := l.unbilled.saturated || inputSaturated } }

/-- SATURATED of the house ledger, set by an itemisation that saturates (R50). -/
def Ledger.markSaturated (on : Bool) (l : Ledger) : Ledger :=
  { l with unbilled := { l.unbilled with saturated := l.unbilled.saturated || on } }

/-! ### Statements (R53 to R55) -/

/-- The account has a settlement pending (R55). -/
def State.settlementPending (s : State) (a : AccountNo) : Bool :=
  allZones.any fun z => s.zones[z].state.closed && (a == 0 || s.zones[z].hasMember a)

/-- The itemisation a statement of this account carries (R53). -/
def State.houseOf (s : State) (a : AccountNo) : House := if a = 0 then s.house else .zero

/-- The statement of kind CURRENT (R53). -/
def State.currentStatement (s : State) (a : AccountNo) : Statement :=
  let l := s.ledgers[a]
  ⟨a, s.accounts[a], .current, l.number, s.settlementPending a, l.unbilled, l.lifetime, s.houseOf a⟩

/-- PEEK STATEMENT (R56). -/
def peekStatementOwner (account kind : Byte) (s : State) : Answer :=
  match accountOf account with
  | none => refuse .badIndex s
  | some a =>
    match statementKindOf kind with
    | none => refuse .badValue s
    | some .current => accept (.statement (s.currentStatement a)) s
    | some .lastCollected => accept (.statement s.ledgers[a].last) s

/-- The statement COLLECT STATEMENT returns: the CURRENT one with the advanced number and settlement pending clear (R57, steps 1 and 2). -/
def State.collected (s : State) (a : AccountNo) : Statement :=
  { s.currentStatement a with number := s.ledgers[a].number + 1, pending := false }

/-- The ledger after its collection (R54; R57, steps 1, 3 and 4). -/
def Ledger.collect (st : Statement) (l : Ledger) : Ledger :=
  { l with unbilled := .zero, number := l.number + 1, last := { st with kind := .lastCollected } }

/-- COLLECT STATEMENT (R57). -/
def collectStatementOwner (account : Byte) (s : State) : Answer :=
  match accountOf account with
  | none => refuse .badIndex s
  | some a =>
    if s.settlementPending a then refuse .notReady s
    else
      let t := s.updLedger a (Ledger.collect (s.collected a))
      accept (.statement (s.collected a)) (if a = 0 then t.withHouse .zero else t)

/-- PEEK_STATEMENT (R56). -/
def execPeekStatement (account kind : Byte) (s : State) : Host.Outcome State Fault Refusal :=
  .next (s.take (.peekStatement account kind) 0x52 (peekStatementOwner account kind))

/-- COLLECT_STATEMENT (R57). -/
def execCollectStatement (account : Byte) (s : State) : Host.Outcome State Fault Refusal :=
  .next (s.take (.collectStatement account) 0x53 (collectStatementOwner account))

end Sys2Proof.Machine
end

