-- ==== Sys2Proof/Machine/Replies.lean ====
section
/-! DEFINITION. The bytes of a reply (R176, R198, R200, chapter 11). The statement, the settlement record, the events record and the reply to
SET EVENT MASK are tabled; the other bodies hold the fields in the order their rules name them, each at the width of its range (log 9). -/

namespace Sys2Proof.Machine

/-! ### Fields -/

/-- A one-byte code. -/
def code (n : Nat) : List Byte := leBytes 1 n

/-- A mark of one byte. -/
def mark (b : Bool) : List Byte := code b.toNat

/-- A signed number of `w` bytes, in two's complement: the spec calls offset b signed (R178) and gives no form for a negative number in a
reply, so that for temperatures, offset b and the remaining budget this is the model's choice (R176, log 9). -/
def leInt (w : Nat) (i : Int) : List Byte := leBytes w (i % (256 ^ w : Nat)).toNat

/-- A field that may be absent, other than a zone: the bytes of an absent one are free, told apart by a key (log 9). -/
def orAbsent {α : Type} (key w : Nat) (f : α → List Byte) : Option α → List Byte
  | some x => f x
  | none => leBytes w (Config.absentField key)

/-- A zone, or 0xFF for none, as in a request (R178): that a reply sends NONE and an absent zone filter so is the model's choice (R176, log 9). -/
def zoneByte : Option ZoneNo → List Byte
  | some z => code z.val
  | none => [0xFF#8]

/-- Four fields, bands 0 to 3. -/
def bandBytes {α : Type} (f : α → List Byte) (v : Bands α) : List Byte := f v[0] ++ f v[1] ++ f v[2] ++ f v[3]

/-- A field of each mode, HEATING first. -/
def modeBytes {α : Type} (f : α → List Byte) (v : ByMode α) : List Byte := f v.heating ++ f v.cooling

/-- Bits of a byte from its marks, the first at bit 0. -/
def bits : List Bool → Nat
  | [] => 0
  | b :: bs => b.toNat + 2 * bits bs

/-! ### Codes, in the order the owning chapter lists the values (chapter 11) -/

/-- The status byte (R177). -/
def Status.code : Status → Nat
  | .ok => 0
  | .busy => 1
  | .notReady => 2
  | .badValue => 3
  | .badIndex => 4
  | .wrongState => 5
  | .conflict => 6
  | .full => 7
  | .uncollected => 8
  | .noCycle => 9
  | .unknownRequest => 10

def AccountState.code : AccountState → Nat
  | .free => 0
  | .opened => 1
  | .vacant => 2

def Mode.code : Mode → Nat
  | .heating => 0
  | .cooling => 1

def ZoneState.code : ZoneState → Nat
  | .unused => 0
  | .opened => 1
  | .armed => 2
  | .queued => 3
  | .settling => 4

def CloseCause.code : CloseCause → Nat
  | .none => 0
  | .immediate => 1
  | .cycleEnd => 2
  | .busStop => 3

def ChannelState.code : ChannelState → Nat
  | .disabled => 0
  | .running => 1
  | .hold => 2
  | .substitute => 3
  | .paused => 4

def SensorStatus.code : SensorStatus → Nat
  | .normal => 0
  | .hold => 1
  | .substitute => 2

def Edge.code : Edge → Nat
  | .rising => 0
  | .falling => 1
  | .both => 2

def NodeKind.code : NodeKind → Nat
  | .allocator => 0
  | .fancoil => 1
  | .submeter => 2

def NodeState.code : NodeState → Nat
  | .active => 0
  | .silent => 1
  | .halted => 2

def LastReading.code : LastReading → Nat
  | .ok => 0
  | .tamper => 1

def RecordStatus.code : RecordStatus → Nat
  | .none => 0
  | .valid => 1
  | .openCircuit => 2
  | .short => 3
  | .reference => 4

def BusState.code : BusState → Nat
  | .off => 0
  | .running => 1
  | .stopping => 2

def Phase.code : Phase → Nat
  | .beacon => 0
  | .poll => 1
  | .sweep => 2
  | .wait => 3

def SweepOutcome.code : SweepOutcome → Nat
  | .none => 0
  | .completed => 1
  | .abortedTableFull => 2
  | .abortedStackFull => 3
  | .abortedStop => 4

def Disposition.code : Disposition → Nat
  | .discard => 0
  | .toPool => 1

def StartKind.code : StartKind → Nat
  | .cold => 0
  | .warm => 1

def StatementKind.code : StatementKind → Nat
  | .current => 0
  | .lastCollected => 1

/-- The SEN stage byte (section 11.5). -/
def stageByte : Option Stage → Nat
  | some .gather => 0
  | some .fixed => 1
  | some .consumption => 2
  | some .area => 3
  | some .standing => 4
  | some .post => 5
  | some .release => 6
  | some .idle => 0xFF
  | none => 0xFF

/-! ### Tabled bodies -/

/-- The statement body (section 11.4, R200). -/
def Statement.bytes (st : Statement) : List Byte :=
  code st.account.val ++ code st.accountState.code ++ code st.kind.code ++ bytes16 st.number ++
  code (bits [st.pending, st.unbilled.estimated, st.unbilled.saturated, st.lifetime.saturated.heating, st.lifetime.saturated.cooling]) ++
  leBytes 2 st.unbilled.count ++ modeBytes (bandBytes (leBytes 5)) st.unbilled.energy ++
  modeBytes (bandBytes (leBytes 8)) st.unbilled.cost ++ leBytes 8 st.unbilled.standing ++ modeBytes (leBytes 6) st.lifetime.energy ++
  leBytes 6 st.house.fromVacancies ++ leBytes 6 st.house.fromMemberless

/-- The five figures of a band (section 11.5). -/
def BandRecord.bytes (b : BandRecord) : List Byte :=
  leBytes 6 b.p ++ leBytes 6 b.f ++ leBytes 6 b.c ++ leBytes 6 b.unattributed ++ leBytes 6 b.house

/-- The settlement record (section 11.5). -/
def SettlementRecord.bytes (r : SettlementRecord) : List Byte :=
  bytes16 r.number ++ code r.cause.code ++ bytes16 r.cycle ++ bandBytes BandRecord.bytes r.bands ++ leBytes 6 r.estimated ++
  leBytes 5 (r.standing.getD 0) ++ code r.memberCount ++ code (bits [r.allArea, r.noMembers, r.saturated, r.standing.isSome])

/-- The reply to READ SETTLEMENT (section 11.5, R200). -/
def SettlementReply.bytes (r : SettlementReply) : List Byte :=
  code r.zone.val ++ code r.state.code ++ bytes16 r.number ++ code r.queueLength ++ code (r.position.getD 0xFF) ++
  code (stageByte r.stage) ++ r.record.bytes

/-- The events record (R198). -/
def EventsRecord.bytes (r : EventsRecord) : List Byte :=
  bytes16 r.number ++ bytes16 r.flags.word ++ bytes16 r.flags.settled ++ bytes16 r.mask

/-! ### Bodies in the order of their rules -/

/-- An accumulator with its saturated flag straight after it, not after all values: the model's choice (R14, R84, R176, log 9). -/
def Accum.bytes (w : Nat) (a : Accum) : List Byte := leBytes w a.value ++ mark a.saturated

/-- A channel half (R81). -/
def ChannelHalf.bytes (h : ChannelHalf) : List Byte := bandBytes (Accum.bytes 5) h.bands ++ h.estimated.bytes 5

/-- The configuration of a channel in the order of R62. -/
def ChannelConfig.bytes (c : ChannelConfig) : List Byte :=
  code c.mode.code ++ zoneByte c.zone ++ leBytes 2 c.pulseValue ++ leBytes 2 c.k ++ leBytes 2 c.minDT ++ leBytes 2 c.fallbackDT ++
  leBytes 2 c.minPeriod ++ leBytes 2 c.noFlowLimit ++ code c.filter ++ code c.edge.code

/-- A held temperature with its set mark straight after it: the model's choice (R84, R176, log 9). -/
def Held.bytes (h : Held) : List Byte := leInt 2 h.value ++ mark h.set

/-- The channel record (R84). -/
def ChannelRecord.bytes (r : ChannelRecord) : List Byte :=
  r.config.bytes ++ code r.state.code ++ code r.status.code ++ leBytes 2 r.holdCount ++ r.flow.bytes ++ r.ret.bytes ++
  leBytes 4 r.carry ++ r.opn.bytes ++ r.closing.bytes ++ leBytes 6 r.volume ++ leBytes 6 r.energy ++ leBytes 6 r.estimated ++
  leBytes 6 r.pausedVolume ++ leBytes 3 r.lastPeriod ++ mark r.known ++ mark r.noFlow ++ leBytes 4 r.flowRate

/-- The last result record of a sensor (R113). -/
def SensorRecord.bytes (r : SensorRecord) : List Byte :=
  code r.status.code ++ mark r.clamped ++ orAbsent 0 2 (leInt 2) r.temperature ++ orAbsent 1 3 (leBytes 3) r.ts ++
  orAbsent 2 3 (leBytes 3) r.tref ++ bytes16 r.round ++ leBytes 2 r.tally

/-- The converter's phase: a sensor number, or free codes for the reference gate and IDLE (R116, log 9). -/
def phaseBytes : Option Gate → List Byte
  | some (.sensor n) => code n.val
  | some .reference => leBytes 1 (Config.absentField 3)
  | none => leBytes 1 (Config.absentField 4)

/-- The sensor record (R116). Offset b goes out in four bytes, as SET CALIBRATION brings it: the model's choice (R105, R176, log 9). -/
def SensorReply.bytes (r : SensorReply) : List Byte :=
  code r.sensor.val ++ code r.channel.val ++ mark r.isReturn ++ mark r.scanned ++ leBytes 2 r.calibration.a ++ leInt 4 r.calibration.b ++
  r.last.bytes ++ phaseBytes r.phase ++ bytes16 r.roundNumber ++ orAbsent 5 2 (leBytes 2) r.inForce ++ leBytes 2 r.gateLength ++
  code r.holdLimit

/-- Which armed terms are held, as one byte with the terms code of a SETTLE entry (NONE, STANDING, ENERGIES, BOTH, R179): the form is the model's
choice, for R14 gives none (log 9). -/
def CloseTerms.code (t : CloseTerms) : Nat := t.standing.isSome.toNat + 2 * t.energies.isSome.toNat

/-- A member in a zone record (R14). -/
def Member.bytes (m : Member) : List Byte :=
  code m.account.val ++ leBytes 2 m.area ++ leBytes 6 m.openW.value ++ leBytes 6 m.closingW.value ++ mark m.openW.saturated ++
  mark m.closingW.saturated

/-- The zone record (R14). The set of channels goes out as one byte with bit c for channel c: the model's choice (R14, R176, log 9). -/
def ZoneReply.bytes (r : ZoneReply) : List Byte :=
  code r.state.code ++ code r.mode.code ++ leBytes 2 r.fixedShare ++ mark r.external ++
  code (bits (allChannels.map fun c => r.channels.contains c)) ++ code r.armed.code ++ code r.lastCause.code ++
  bytes16 r.cycleAtClose ++ bytes16 r.number ++ r.openU.bytes 6 ++ r.closingU.bytes 6 ++ code r.memberCount ++ code r.band.val ++
  bandBytes (leBytes 2) r.prices ++ r.members.flatMap Member.bytes

/-- A point (R164), its absent zone filter as 0xFF: the model's choice (R165, R166, log 9). -/
def Point.bytes (p : Point) : List Byte :=
  mark p.valid ++ bytes32 p.serial ++ zoneByte p.zoneFilter ++ code p.kind.code ++ code p.account.val ++ leBytes 2 p.factor

/-- A valid point's standing in the Node Table (R166). -/
def pointNodeBytes (valid : Bool) (n : Option (NodeState × ZoneNo)) : List Byte :=
  if valid then
    mark n.isSome ++
      match n with
      | some (st, z) => code st.code ++ code z.val
      | none => []
  else []

/-- The bus status record (R123). -/
def BusStatus.bytes (r : BusStatus) : List Byte :=
  code r.bus.code ++ orAbsent 6 1 (fun p => code (Phase.code p)) r.phase ++ bytes16 r.cycleNumber ++ orAbsent 7 4 (leInt 4) r.remaining ++
  bytes32 r.rotation ++ mark r.sweepActive ++ code r.ranges ++ code r.sweepCount ++ code r.lastSweep.code ++
  leBytes 2 r.config.cycleLength ++ leBytes 2 r.config.guard ++ code r.config.retryLimit ++ code r.config.silentLimit ++
  code r.config.ageLimit ++ code r.config.sweepInterval

/-- A node entry (R148). -/
def NodeEntry.bytes (e : NodeEntry) : List Byte :=
  bytes32 e.serial ++ code e.zone.val ++ code e.kind.code ++ code e.state.code ++ mark e.toggle ++ code e.misses ++
  orAbsent 8 2 (leBytes 2) e.lastUnits ++ orAbsent 9 1 (fun x => code (LastReading.code x)) e.lastStatus ++
  orAbsent 10 2 bytes16 e.lastCycle ++ leBytes 3 e.tally ++ mark e.tallySaturated

/-- The resolving point of a found entry (R167). -/
def ResolvingPoint.bytes (p : ResolvingPoint) : List Byte :=
  code p.index.val ++ code p.kind.code ++ code p.account.val ++ mark p.member

/-- The node record (R167). -/
def nodeRecordBytes (count : Nat) (found : Option FoundNode) : List Byte :=
  leBytes 2 count ++ mark found.isSome ++
    match found with
    | some f => leBytes 2 f.index ++ f.entry.bytes ++ orAbsent 11 1 ResolvingPoint.bytes f.point
    | none => []

/-- The identification record (R180). -/
def identificationBytes (lastStart : StartKind) (startCount : Nat) (eventsRead : Word16) : List Byte :=
  leBytes Config.partCodeWidth Config.partCode ++ leBytes Config.hardwareRevisionWidth Config.hardwareRevision ++ code 128 ++ code 16 ++
  code 32 ++ code 8 ++ code 16 ++ leBytes 2 384 ++ code 64 ++ code 16 ++ code 32 ++ code lastStart.code ++ leBytes 2 startCount ++
  bytes16 eventsRead

/-- The activity counters of a channel (R85). -/
def ChannelCounters.bytes (c : ChannelCounters) : List Byte :=
  leBytes 4 c.pulses ++ leBytes 4 c.overspeed ++ leBytes 4 c.reverse ++ leBytes 4 c.low ++ leBytes 4 c.beforeTemp ++ leBytes 4 c.clamped

/-- The bus activity counters (R145). -/
def BusCounters.bytes (c : BusCounters) : List Byte :=
  leBytes 4 c.transactions ++ leBytes 4 c.timeouts ++ leBytes 4 c.crcErrors ++ leBytes 4 c.duplicates ++ leBytes 4 c.wrongResponders ++
  leBytes 4 c.cycles

/-- The bus fault totals (R146). -/
def BusTotals.bytes (t : BusTotals) : List Byte :=
  leBytes 4 t.overruns ++ leBytes 4 t.unresolved ++ leBytes 4 t.zoneInvalid ++ leBytes 4 t.tableFull ++ leBytes 4 t.migrations

/-- The attribution counters (R168). -/
def AtuCounters.bytes (c : AtuCounters) : List Byte :=
  leBytes 4 c.resolved ++ leBytes 4 c.member ++ leBytes 4 c.mismatch ++ leBytes 4 c.nonMember ++ leBytes 4 c.unassigned ++
  leBytes 4 c.quarantined ++ leBytes 4 c.saturated

/-- The content of a reply after its status byte (section 9.4). SET CALIBRATION's offset b goes back in four bytes, as it came: the model's choice
(R105, R176, log 9). -/
def Content.bytes : Content → List Byte
  | .empty => []
  | .identification k n e => identificationBytes k n e
  | .events r => r.bytes
  | .mask m f => bytes16 m ++ bytes16 f.word ++ bytes16 f.settled
  | .configuration _ c => c.bytes
  | .channelState c st => code c.val ++ code st.code
  | .channelRecord r => r.bytes
  | .converter g h f => leBytes 2 g ++ code h ++ orAbsent 12 2 (leBytes 2) f
  | .calibration n c => code n.val ++ leBytes 2 c.a ++ leInt 4 c.b
  | .sensorRecord r => r.bytes
  | .zoneDefinition z st m f x => code z.val ++ code st.code ++ code m.code ++ leBytes 2 f ++ mark x
  | .zoneState z st => code z.val ++ code st.code
  | .memberCount z a n => code z.val ++ code a.val ++ code n
  | .zoneRecord r => r.bytes
  | .accountState a st => code a.val ++ code st.code
  | .prices t => modeBytes (bandBytes (leBytes 2)) t
  | .band b => code b.val
  | .point i p => code i.val ++ p.bytes
  | .pointIndex i => code i.val
  | .pointRecord p n x => p.bytes ++ code n ++ pointNodeBytes p.valid x
  | .busStatus r => r.bytes
  | .nodeRecord n f => nodeRecordBytes n f
  | .released x d n => bytes32 x ++ code d.code ++ leBytes 3 n
  | .forgotten x n => bytes32 x ++ leBytes 2 n
  | .entryStatuses l => l.flatMap fun st => code st.code
  | .settlement r => r.bytes
  | .statement st => st.bytes
  | .linkCounters a b c d e => leBytes 4 a ++ leBytes 4 b ++ leBytes 4 c ++ leBytes 4 d ++ leBytes 4 e
  | .einCounters c => c.toList.flatMap ChannelCounters.bytes
  | .busCounters c t r => c.bytes ++ t.bytes ++ r.bytes
  | .attributionCounters c a b => c.bytes ++ leBytes 6 a ++ leBytes 6 b

/-- The body of a reply: the status, and the content when it is OK (R176). -/
def Reply.body (r : Reply) : List Byte := code r.status.code ++ if r.status = .ok then r.content.bytes else []

/-- The reply as LINK sends it (R171, R176). -/
def Reply.frame (r : Reply) : List Byte := hostFrame r.type r.body

end Sys2Proof.Machine
end

