-- ==== Sys2Proof/Machine/Supply.lean ====
section
/-! DEFINITION. The Supply Supervisor (R188 to R196): the stop of the main domain, the warm and the cold start, and the events of the
supplies and the RESET pin. -/

namespace Sys2Proof.Machine

/-- The supervisor's state changed. -/
def State.updSsv (s : State) (f : Ssv → Ssv) : State := s.withSsv (f s.ssv)

/-! ### The stop of the main domain (R190, R194) -/

/-- LINK stops (R187). -/
def Link.stop (l : Link) : Link := { l with receiver := .discard, burst := false }

/-- The ABM stops: a STOPPING bus becomes OFF, the cycle, the work in hand and the sweep are discarded (R147, log 27). -/
def Abm.stop (a : Abm) : Abm :=
  { a with
    bus := if a.bus = .stopping then .off else a.bus
    cycle := none
    activity := .none
    sweep := ⟨false, []⟩
    sweepLost := a.sweepLost || a.sweep.active }

/-- The SEN stops: a SETTLING zone returns to the queue head (R45). -/
def State.stopSen (s : State) : State :=
  match s.sen.zone with
  | some z => (((s.updZone z fun r => { r with state := .queued }).withQueue (z :: s.queue))).withSen .cold
  | none => s.withSen .cold

/-- The bus stop delivered to the APS when the bus was not OFF (R17, R147). -/
def State.closeForStop (s : State) : State := if s.abm.bus = .off then s else s.closeArmed .busStop

/-- Every main-domain block stops as its chapter lays down (R190). -/
def State.stopMain (s : State) : State :=
  let t := s.closeForStop.stopSen
  ((t.withLink t.link.stop).withTcv { t.tcv with round := none }).withAbm t.abm.stop |>.withAtu
    { t.atu with op := none, handed := none }

/-! ### Starts (R193, R196) -/

/-- LINK's part of a warm start (R187). -/
def Link.warm (l : Link) : Link :=
  { l.stop with
    startCount := satAdd 65535 l.startCount 1
    lastStart := .warm
    flags := l.flags.raiseSupplyMain }

/-- A sweep active at the loss is recorded as aborted (R147). -/
def State.recordLostSweep (s : State) : State :=
  if s.abm.sweepLost then (s.withAbm { s.abm with lastSweep := .abortedStop, sweepLost := false }).flag .raiseSweepDone else s

/-- The bus master's part of a warm start (R147). -/
def State.warmBus (s : State) : State :=
  let t := s.recordLostSweep.withRotation 0
  if t.abm.bus = .running then t.beginCycle else t

/-- A warm start (R193). -/
def State.warmStart (s : State) : State :=
  let t := s.updSsv fun v => { v with domain := .running }
  ((t.withLink t.link.warm).beginRound).warmBus

/-- The beginning of a cold start (R196): the marker is lost and every block is set to its cold-start values (log 14). -/
def State.beginColdStart (s : State) : State :=
  { State.reset with
    link := .cold
    ssv := { s.ssv with markerValid := false, domain := .coldStart }
    freeUses := s.freeUses
    pending := s.pending }

/-- The start that the marker decides (R192, R194). -/
def State.start (s : State) : State := if s.ssv.markerValid then s.warmStart else s.beginColdStart

/-! ### Supplies (R190, R192, R195) -/

/-- The entry to BACKUP (R190). -/
def State.enterBackup (s : State) : State :=
  (s.stopMain.updSsv fun v => { v with supply := .backup, domain := .off, mainPresent := false }).flag .raiseSupplyBackup

/-- The whole part loses power and the marker is lost (R190, R195, log 15). No input samples and no pulse is taken until a qualification completes,
also when a backup supply recovers before: the model's choice (log 31). -/
def State.losePower (s : State) : State :=
  s.stopMain.updSsv fun v => { v with domain := .off, mainPresent := false, qualifying := false, markerValid := false, powered := false }

/-- A qualification is abandoned with nothing changed (R192). -/
def State.abandonQualification (s : State) : State := s.updSsv fun v => { v with mainPresent := false, qualifying := false }

/-- MAIN_SUPPLY_LOSS (R190, R192, R195): the operand says whether the backup supply is present and above the retention threshold (log 24). -/
def execMainSupplyLoss (backupUsable : Bool) (s : State) : Host.Outcome State Fault Refusal :=
  .next (if !s.ssv.mainPresent then s
    else if !backupUsable then s.losePower
    else if s.ssv.qualifying then s.abandonQualification
    else s.enterBackup)

/-- MAIN_SUPPLY_RISE: a qualification begins (R192). That the inputs of a part that had lost all power stay still until it completes is the model's
choice (log 31). -/
def execMainSupplyRise (s : State) : Host.Outcome State Fault Refusal :=
  .next (if s.ssv.mainPresent then s else s.updSsv fun v => { v with mainPresent := true, qualifying := true })

/-- The qualification has completed: the supply state is MAIN, and the part is held or starts (R192). From here on the backup domain of a part that
had lost all power works again (log 31). -/
def State.qualified (s : State) : State :=
  let t := s.updSsv fun v => { v with qualifying := false, supply := .main, powered := true }
  if t.ssv.resetAsserted then t.updSsv fun v => { v with domain := .held } else t.start

/-- QUALIFICATION_COMPLETE (R192). -/
def execQualificationComplete (s : State) : Host.Outcome State Fault Refusal :=
  .next (if s.ssv.qualifying && s.ssv.mainPresent then s.qualified else s)

/-- RETENTION_LOSS: the backup-domain supply falls below the retention threshold; main supply, while present, feeds it (R195), by the model's
choice as soon as it is above its threshold, qualified or not (log 25). The PIU and the EIN stop with that supply, and a recovery of it before main
supply returns does not start them again: the model's choice (log 31). -/
def execRetentionLoss (s : State) : Host.Outcome State Fault Refusal :=
  .next (if s.ssv.mainPresent then s else s.updSsv fun v => { v with markerValid := false, powered := false })

/-! ### The RESET pin (R194) -/

/-- The main domain stops on an asserted pin: it is held in reset, and a cold start is abandoned (R194, R196). -/
def State.holdReset (s : State) : State :=
  match s.ssv.domain with
  | .running => s.stopMain.updSsv fun v => { v with domain := .held }
  | .coldStart => s.updSsv fun v => { v with domain := .held, markerValid := false }
  | .held | .off => s

/-- RESET_ASSERT (R194): in BACKUP only the pin's level changes (R191). -/
def execResetAssert (s : State) : Host.Outcome State Fault Refusal :=
  .next (if s.ssv.resetAsserted then s else s.holdReset.updSsv fun v => { v with resetAsserted := true })

/-- RESET_RELEASE (R194): a part held in reset starts. -/
def execResetRelease (s : State) : Host.Outcome State Fault Refusal :=
  .next (if s.ssv.resetAsserted then
      let t := s.updSsv fun v => { v with resetAsserted := false }
      if t.ssv.domain = .held then t.start else t
    else s)

/-- COLD_START_END (R196). -/
def execColdStartEnd (s : State) : Host.Outcome State Fault Refusal :=
  .next (if s.ssv.domain = .coldStart then
      (s.updSsv fun v => { v with markerValid := true, domain := .running }).flag fun f => { f with coldStart := true }
    else s)

end Sys2Proof.Machine
end

