-- ==== Sys2Proof/Machine/Link.lean ====
section
/-! DEFINITION. The Host Link Port (R170 to R187): reception byte by byte, the requests LINK owns, the refusals it makes, and the end of a reply. -/

namespace Sys2Proof.Machine

/-- LINK changed. -/
def State.updLink (s : State) (f : Link → Link) : State := s.withLink (f s.link)

/-! ### Reception (R172, R175) -/

/-- The receiver goes to a state. -/
def Link.goTo (r : Receiver) (l : Link) : Link := { l with receiver := r }

/-- A frame is abandoned as bad (R172). -/
def Link.abandon (r : Receiver) (l : Link) : Link := { l with receiver := r, badFrames := inc32 l.badFrames }

/-- A noise byte (R172). -/
def Link.addNoise (l : Link) : Link := { l with noise := inc32 l.noise }

/-- A sound frame moves LINK to PROCESS (R172). -/
def Link.soundFrame (type : Byte) (body : List Byte) (l : Link) : Link :=
  { l with receiver := .process type body, framesTaken := inc32 l.framesTaken }

/-- The first byte of a burst in PROCESS or SEND is an overrun; the others are ignored (R175). -/
def Link.overrun (l : Link) : Link :=
  if l.burst then l else { l with burst := true, overruns := inc32 l.overruns, flags := l.flags.raiseLinkOverrun }

/-- The frame is complete: LEN bytes and the two CRC bytes follow the LEN byte (R171). -/
def frameComplete (bytes : List Byte) : Bool :=
  match bytes with
  | [] => false
  | len :: rest => rest.length == len.toNat + 2

/-- A complete frame is sound when its CRC matches (R171, R172). -/
def Link.finishFrame (bytes : List Byte) (l : Link) : Link :=
  let covered := bytes.take (bytes.length - 2)
  if bytes.drop (bytes.length - 2) = bytes16 (crc16 covered) then
    match covered with
    | _ :: type :: body => l.soundFrame type body
    | _ => l.abandon .hunt
  else l.abandon .hunt

/-- A byte taken into the frame; `bytes` holds those from LEN on that came before it (R172). -/
def Link.frameByte (bytes : List Byte) (b : Byte) (framingError : Bool) (l : Link) : Link :=
  if framingError then l.abandon .discard
  else if bytes = [] ∧ (b = 0#8 ∨ 250 < b.toNat) then l.abandon .discard
  else if frameComplete (bytes ++ [b]) then l.finishFrame (bytes ++ [b])
  else l.goTo (.receive (bytes ++ [b]))

/-- One received byte (R172, R175). -/
def Link.byte (b : Byte) (framingError : Bool) (l : Link) : Link :=
  match l.receiver with
  | .hunt => if b = 0xA5#8 ∧ framingError = false then l.goTo (.receive []) else l.addNoise
  | .receive bytes => l.frameByte bytes b framingError
  | .process _ _ | .processTaken _ | .send _ => l.overrun
  | .discard => l

/-- BYTE_RECEIVED (R172). -/
def execByteReceived (byte : Byte) (framingError : Bool) (s : State) : Host.Outcome State Fault Refusal :=
  .next (if s.mainRuns then s.updLink (Link.byte byte framingError) else s)

/-- The receiver state in which a bad frame leaves LINK (R172). -/
def badFrameReceiver : BadFrameCause → Receiver
  | .badLength | .framingError => .discard
  | .earlyIdle | .crcMismatch => .hunt

/-- A frame, begun or coming in whole, is abandoned (R172, log 3); once a LEN byte has been taken it is no longer a bad one. -/
def Link.badFrame (cause : BadFrameCause) (l : Link) : Link :=
  match l.receiver with
  | .hunt | .receive [] => l.abandon (badFrameReceiver cause)
  | .receive (_ :: _) => if cause = .badLength then l else l.abandon (badFrameReceiver cause)
  | .process _ _ | .processTaken _ | .send _ | .discard => l

/-- BAD_FRAME (R172). -/
def execBadFrame (cause : BadFrameCause) (s : State) : Host.Outcome State Fault Refusal :=
  .next (if s.mainRuns then s.updLink (Link.badFrame cause) else s)

/-- A byte arrives while a request is held or its reply is sent (R175). -/
def Link.burstBegins (l : Link) : Link :=
  match l.receiver with
  | .process _ _ | .processTaken _ | .send _ => l.overrun
  | .hunt | .receive _ | .discard => l

/-- LINK_OVERRUN (R175). -/
def execLinkOverrun (s : State) : Host.Outcome State Fault Refusal :=
  .next (if s.mainRuns then s.updLink Link.burstBegins else s)

/-- The line becomes idle (R172, R175). -/
def Link.idle (l : Link) : Link :=
  match l.receiver with
  | .receive _ => { l.abandon .hunt with burst := false }
  | .discard => { l with receiver := .hunt, burst := false }
  | .hunt | .process _ _ | .processTaken _ | .send _ => { l with burst := false }

/-- LINE_IDLE (R170, R172). -/
def execLineIdle (s : State) : Host.Outcome State Fault Refusal :=
  .next (if s.mainRuns then s.updLink Link.idle else s)

/-! ### The end of a reply (R176, R186) -/

/-- The reply is that of an accepted FACTORY CLEAR. -/
def Reply.isFactoryClear (r : Reply) : Bool := r.type == 0xE1#8 && r.status == .ok

/-- The last byte of a reply has been sent (R176, R186). -/
def State.replySent (s : State) (r : Reply) : State :=
  if r.isFactoryClear then s.beginColdStart
  else s.updLink (Link.goTo (if s.link.burst then .discard else .hunt))

/-- REPLY_SENT (R176). -/
def execReplySent (s : State) : Host.Outcome State Fault Refusal :=
  .next (match s.link.receiver with
    | .send r => if s.mainRuns then s.replySent r else s
    | _ => s)

/-! ### The transmit pin (R170) -/

/-- The levels of one byte on the host link, bit time by bit time, true at the mark level: start bit, data bits from the least significant,
stop bit (R170). -/
def hostBits (b : Byte) : List Bool := [false, b[0], b[1], b[2], b[3], b[4], b[5], b[6], b[7], true]

/-- The levels of the reply that LINK sends: none outside SEND, in BACKUP and until a start has completed (R170). -/
def State.hostLevels (s : State) : List Bool :=
  match s.link.receiver with
  | .send r => if s.mainRuns then r.frame.flatMap hostBits else []
  | .hunt | .receive _ | .process _ _ | .processTaken _ | .discard => []

/-- The transmit pin `t` bit times after the reply began: at the mark level outside a reply (R170, log 17). -/
def State.hostTransmit (s : State) (t : Nat) : Bool := s.hostLevels.getD t true

/-! ### The requests LINK owns -/

/-- IDENTIFY (R180). -/
def identifyOwner (s : State) : Answer :=
  accept (.identification s.link.lastStart s.link.startCount s.link.eventsRead) s

/-- The record a CURRENT read forms (R183). -/
def Link.nextRecord (l : Link) : EventsRecord := ⟨l.eventsRead + 1, l.flags, l.mask⟩

/-- LINK after a CURRENT read: the copy is stored and the flags are cleared (R183). -/
def Link.readEvents (l : Link) : Link := { l with eventsRead := l.eventsRead + 1, copy := l.nextRecord, flags := .none }

/-- READ EVENTS (R183). -/
def readEventsOwner (selector : Byte) (s : State) : Answer :=
  match selector.toNat with
  | 0 => accept (.events s.link.nextRecord) (s.updLink Link.readEvents)
  | 1 => accept (.events s.link.copy) s
  | _ => refuse .badValue s

/-- SET EVENT MASK (R182). -/
def setEventMaskOwner (mask : Word16) (s : State) : Answer :=
  if maskValid mask then accept (.mask mask s.link.flags) (s.updLink fun l => { l with mask := mask }) else refuse .badValue s

/-- READ COUNTERS of the LINK group (R185). -/
def linkCounters (s : State) : Answer :=
  accept (.linkCounters s.link.framesTaken s.link.refusals s.link.badFrames s.link.overruns s.link.noise)
    (s.updLink fun l => { l with framesTaken := 0, refusals := 0 })

/-- READ COUNTERS of the EIN group (R85, R185). -/
def einCounters (s : State) : Answer :=
  accept (.einCounters (s.channels.map (·.counters))) (s.withChannels (mapChannels (fun c => { c with counters := .zero }) s.channels))

/-- READ COUNTERS of the BUS group (R145, R146, R185). -/
def busCountersGroup (s : State) : Answer :=
  accept (.busCounters s.abm.counters s.abm.totals s.letTimePass.busStatus) (s.letTimePass.countBus fun _ => .zero)

/-- READ COUNTERS of the ATTRIBUTION group (R168, R185). -/
def attributionCounters (s : State) : Answer :=
  accept (.attributionCounters s.atu.counters s.atu.orphan s.atu.discarded) (s.countAtu fun _ => .zero)

/-- READ COUNTERS (R185). -/
def readCountersOwner (group : Byte) (s : State) : Answer :=
  match group.toNat with
  | 0 => linkCounters s
  | 1 => einCounters s
  | 2 => busCountersGroup s
  | 3 => attributionCounters s
  | _ => refuse .badValue s

/-- FACTORY CLEAR: the cold start begins when its reply has been sent (R186). -/
def factoryClearOwner (s : State) : Answer := accept .empty s

/-- A frame LINK refuses: UNKNOWN_REQUEST for a TYPE that is not listed, BAD_VALUE for a listed one with another length (R173). -/
def unknownRequestOwner (type : Byte) (s : State) : Answer :=
  refuse (if catalogued type then .badValue else .unknownRequest) s

/-- IDENTIFY (R180). -/
def execIdentify (s : State) : Host.Outcome State Fault Refusal :=
  .next (s.take .identify 0x01 identifyOwner)

/-- READ_EVENTS (R183). -/
def execReadEvents (selector : Byte) (s : State) : Host.Outcome State Fault Refusal :=
  .next (s.take (.readEvents selector) 0x02 (readEventsOwner selector))

/-- SET_EVENT_MASK (R182). -/
def execSetEventMask (mask : Word16) (s : State) : Host.Outcome State Fault Refusal :=
  .next (s.take (.setEventMask mask) 0x03 (setEventMaskOwner mask))

/-- READ_COUNTERS (R185). -/
def execReadCounters (group : Byte) (s : State) : Host.Outcome State Fault Refusal :=
  .next (s.take (.readCounters group) 0x60 (readCountersOwner group))

/-- FACTORY_CLEAR (R186). -/
def execFactoryClear (s : State) : Host.Outcome State Fault Refusal :=
  .next (s.take .factoryClear 0x61 factoryClearOwner)

/-- UNKNOWN_REQUEST (R173). -/
def execUnknownRequest (type : Byte) (length : Nat) (s : State) : Host.Outcome State Fault Refusal :=
  .next (s.take (.unknownRequest type length) type (unknownRequestOwner type))

end Sys2Proof.Machine
end

