-- ==== Sys2Proof/Machine/Points.lean ====
section
/-! DEFINITION. The Point Assignment Table requests (R164 to R166). -/

namespace Sys2Proof.Machine

/-- The point number check of R165 and R166. -/
def withPoint (idx : Byte) (s : State) (k : PointNo → Answer) : Answer :=
  match pointOf idx with
  | none => refuse .badIndex s
  | some i => k i

/-- Another valid entry has the same serial and an overlapping filter (R165, check 3). -/
def State.pointConflict (s : State) (i : PointNo) (p : Point) : Bool :=
  allPoints.any fun j =>
    j != i && s.points[j].valid && s.points[j].serial == p.serial && filtersOverlap s.points[j].zoneFilter p.zoneFilter

/-- WRITE POINT with its fields read (R165). -/
def writePointOwner (idx : Byte) (fields : Option Point) (s : State) : Answer :=
  withPoint idx s fun i =>
    match fields with
    | none => refuse .badValue s
    | some p => if s.pointConflict i p then refuse .conflict s else accept (.point i p) (s.withPoints (s.points.set i p))

/-- CLEAR POINT (R166). -/
def clearPointOwner (idx : Byte) (s : State) : Answer :=
  withPoint idx s fun i => accept (.pointIndex i) (s.withPoints (upd s.points i fun p => { p with valid := false }))

/-- The number of valid entries (R166). -/
def State.validPoints (s : State) : Nat := (allPoints.filter fun i => s.points[i].valid).length

/-- A valid entry's standing in the Node Table (R166). -/
def State.pointNode (s : State) (p : Point) : Option (NodeState × ZoneNo) :=
  if p.valid then (s.node? p.serial).map fun e => (e.state, e.zone) else none

/-- READ POINT (R166). -/
def readPointOwner (idx : Byte) (s : State) : Answer :=
  withPoint idx s fun i => accept (.pointRecord s.points[i] s.validPoints (s.pointNode s.points[i])) s

/-- WRITE_POINT (R165). -/
def execWritePoint (idx : Byte) (serial : Serial) (zoneFilter kind account : Byte) (factor : Word16) (s : State) :
    Host.Outcome State Fault Refusal :=
  .next (s.take (.writePoint idx serial zoneFilter kind account factor) 0x30
    (writePointOwner idx (pointFieldsOf serial zoneFilter kind account factor)))

/-- CLEAR_POINT (R166). -/
def execClearPoint (idx : Byte) (s : State) : Host.Outcome State Fault Refusal :=
  .next (s.take (.clearPoint idx) 0x31 (clearPointOwner idx))

/-- READ_POINT (R166). -/
def execReadPoint (idx : Byte) (s : State) : Host.Outcome State Fault Refusal :=
  .next (s.take (.readPoint idx) 0x32 (readPointOwner idx))

end Sys2Proof.Machine
end

