-- ==== Sys2Proof/Machine/Pulse.lean ====
section
/-! DEFINITION. The Pulse Input Unit (R86 to R102): one tick of an input, taken whole (R100). The EIN takes a pulse the tick finds before the
input's next tick (R92): at once, or after the commands that come between, as the sender says (R70, log 4). -/

namespace Sys2Proof.Machine

/-- The greatest value of the period counter. -/
def counterLimit : Nat := 2 ^ 24 - 1

/-- The counter advanced for the tick (R93). -/
def Input.advance (i : Input) : Input := { i with counter := satAdd counterLimit i.counter 1 }

/-- The no-flow comparison after the advance (R97). -/
def Input.compare (i : Input) : Input := if i.counter = i.noFlowLimit * 1024 then { i with noFlow := true } else i

/-- The acceptance length (R89). -/
def Input.acceptance (i : Input) : Nat := 2 * i.filter

/-- Steps 1 to 3 of the filter: candidate and stability count (R89). -/
def Input.sampleLevel (x : Level) (i : Input) : Input :=
  if i.accepted = some x then { i with candidate := none, stability := 0 }
  else if i.candidate = some x then { i with stability := i.stability + 1 }
  else { i with candidate := some x, stability := 1 }

/-- Step 4 of the filter: the candidate becomes the accepted level (R89). -/
def Input.settleLevel (i : Input) : Input :=
  if i.candidate.isSome ∧ i.acceptance ≤ i.stability then { i with accepted := i.candidate, candidate := none, stability := 0 } else i

/-- Edge selection: whether a change between two accepted levels is a pulse (R91). -/
def Edge.selects : Edge → Level → Level → Bool
  | .rising, .low, .high => true
  | .falling, .high, .low => true
  | .both, .low, .high => true
  | .both, .high, .low => true
  | _, _, _ => false

/-- Whether the step from one accepted level to another is a pulse: settling is not (R89, R91). -/
def pulseFound (e : Edge) : Option Level → Option Level → Bool
  | some a, some b => e.selects a b
  | _, _ => false

/-- The pulse as captured: its period, the known mark, clear for the first pulse since START, and the overspeed mark (R94, R96). -/
def Input.capture (i : Input) : Pulse := ⟨i.counter, i.pulsed, i.pulsed && decide (i.counter < i.minPeriod)⟩

/-- The period work of a pulse and its handover (R92, R94, R97). -/
def Input.pulse (i : Input) : Input :=
  { i with lastPeriod := i.counter, known := i.pulsed, counter := 0, noFlow := false, pulsed := true, handover := some i.capture }

/-- One tick's PIU work on a running input with this sample (R89 to R97). -/
def Input.tick (x : Level) (i : Input) : Input :=
  let j := (i.advance.compare.sampleLevel x).settleLevel
  if pulseFound i.edge i.accepted j.accepted then j.pulse else j

/-- The EIN takes the pulse in the handover, if there is one (R92). -/
def State.takeHandover (s : State) (c : ChannelNo) : State :=
  match s.inputs[c].handover with
  | none => s
  | some p => (s.updInput c (fun i => { i with handover := none })).takePulse c p

/-- The PIU samples input c: the backup domain has a supply (R189, log 31) and the input runs (R87, R101). -/
def State.samples (s : State) (c : ChannelNo) : Bool := s.ssv.powered && s.inputs[c].running

/-- One tick of input c with this sample, whole; it does not reach a STOPPED input (R100). The EIN has taken the pulse of the tick before by
then, and takes a pulse of this tick at once or leaves it in the handover (R92). -/
def State.tick (s : State) (c : ChannelNo) (x : Sample) : State :=
  if s.samples c then
    let t := (s.takeHandover c).updInput c (Input.tick x.level)
    if x.atOnce then t.takeHandover c else t
  else s

/-- The next sample at the candidate level completes the stability count (R89). -/
def Input.completes (i : Input) : Bool :=
  i.candidate.isSome && i.candidate != i.accepted && decide (i.acceptance ≤ i.stability + 1)

/-- A tick whose sample is the candidate level, where the condition holds, with its pulse taken at once (log 4). -/
def State.candidateTick (s : State) (c : ChannelNo) (allowed : Bool) : State :=
  match s.inputs[c].candidate with
  | some x => if allowed && s.inputs[c].completes then s.tick c ⟨x, true⟩ else s
  | none => s

/-- TICK (R89). -/
def execTick (input : ChannelNo) (sample : Sample) (s : State) : Host.Outcome State Fault Refusal :=
  .next (s.tick input sample)

/-- ACCEPTED_CHANGE: the tick that completes the count of an input whose accepted level is known (R89, R91). -/
def execAcceptedChange (input : ChannelNo) (s : State) : Host.Outcome State Fault Refusal :=
  .next (s.candidateTick input s.inputs[input].accepted.isSome)

/-- INPUT_SETTLING: the tick that completes the count of an UNKNOWN input (R90); it finds no pulse. -/
def execInputSettling (input : ChannelNo) (s : State) : Host.Outcome State Fault Refusal :=
  .next (s.candidateTick input s.inputs[input].accepted.isNone)

/-- NO_FLOW: the tick at which the period counter reaches the no-flow limit (R97). -/
def execNoFlow (input : ChannelNo) (sample : Sample) (s : State) : Host.Outcome State Fault Refusal :=
  .next (if s.inputs[input].advance.counter = s.inputs[input].noFlowLimit * 1024 then s.tick input sample else s)

end Sys2Proof.Machine
end

