-- ==== Sys2Proof/Machine/Settlement.lean ====
section
/-! DEFINITION. The Settlement Engine (R22 to R47): the taking of a zone, the seven stages, and READ SETTLEMENT. Each stage is a command of its
own, taken when the engine is at that stage (log 26). -/

namespace Sys2Proof.Machine

/-- The SEN's stage and scratch results replaced, the zone kept. -/
def State.toStage (s : State) (st : Stage) (x : Scratch) : State := s.withSen ⟨st, s.sen.zone, x⟩

/-- The zone in progress when the SEN is at this stage and the main domain runs. -/
def State.atStage (s : State) (st : Stage) : Option ZoneNo := if s.mainRuns && s.sen.stage == st then s.sen.zone else none

/-! ### Taking a zone (R23, R46) -/

/-- The zone's closing half has been posted already (R46). -/
def State.alreadyPosted (s : State) (z : ZoneNo) : Bool := s.zones[z].closing.number == s.records[z].number

/-- The idle SEN takes the queue head (R23, R46). -/
def State.takeZone (s : State) : State :=
  match s.queue with
  | [] => s
  | z :: rest =>
    ((s.withQueue rest).updZone z fun r => { r with state := .settling }).withSen
      ⟨if s.alreadyPosted z then .release else .gather, some z, .empty⟩

/-! ### GATHER and FIXED (R26, R27) -/

/-- The band energy of the closing half: the channels' part and the external part (R26). -/
def State.bandEnergy (s : State) (z : ZoneNo) (b : BandNo) : Nat :=
  ((s.assigned z).map fun c => s.channels[c].closing.bands[b].value).sum +
    match s.zones[z].closing.terms.energies with
    | some e => e[b]
    | none => 0

/-- A channel half carries a set saturated flag. -/
def ChannelHalf.anySaturated (h : ChannelHalf) : Bool := h.estimated.saturated || allBands.any fun b => h.bands[b].saturated

/-- A value gathered carries a set saturated flag (R26). -/
def State.inputSaturated (s : State) (z : ZoneNo) : Bool :=
  s.zones[z].members.any (fun m => m.closingW.saturated) || s.zones[z].closing.u.saturated ||
    (s.assigned z).any fun c => s.channels[c].closing.anySaturated

/-- The inputs of the settlement (R26). -/
def State.gathered (s : State) (z : ZoneNo) : Gathered :=
  let r := s.zones[z]
  { p := bandwise (s.bandEnergy z)
    estimated := ((s.assigned z).map fun c => s.channels[c].closing.estimated.value).sum
    members := r.members.map fun m => ⟨m.account, m.area, m.closingW.value⟩
    u := r.closing.u.value
    standing := r.closing.terms.standing
    number := r.closing.number
    cause := r.closing.cause
    cycle := r.closing.cycle
    mode := r.mode
    fixedShare := r.fixedShare
    inputSaturated := s.inputSaturated z }

/-- The fixed part of a band (R27). -/
def fixedPart (p f : Nat) : Nat := p * f / 1000

/-- The results of FIXED (R27). -/
def fixedParts (g : Gathered) : FixedParts :=
  ⟨bandwise fun b => fixedPart g.p[b] g.fixedShare, bandwise fun b => g.p[b] - fixedPart g.p[b] g.fixedShare⟩

/-! ### CONSUMPTION, AREA and STANDING (R30 to R34) -/

/-- The members' weights followed by the unattributed recipient's (R30). -/
def Gathered.weights (g : Gathered) : List Nat := g.members.map (·.w) ++ [g.u]

/-- The members' areas (R32). -/
def Gathered.areas (g : Gathered) : List Nat := g.members.map (·.area)

/-- No units at all: every member's W and U are 0 (R31). -/
def Gathered.noUnits (g : Gathered) : Bool := g.weights.sum == 0

/-- The division of one band's consumption part, the unattributed share last: all zero without units (R30, R31). -/
def Gathered.divide (g : Gathered) (c : Nat) : List Nat :=
  if g.noUnits then List.replicate (g.members.length + 1) 0 else apportion c g.weights

/-- The results of CONSUMPTION (R30, R31, R33). Without members no share is computed. -/
def consumptionParts (g : Gathered) (f : FixedParts) : ConsumptionParts :=
  if g.members = [] then ⟨bandwise fun _ => [], Bands.zero, g.p, false⟩
  else
    let un := fun b : BandNo => (g.divide f.c[b]).getD g.members.length 0
    { shares := bandwise fun b => (g.divide f.c[b]).take g.members.length
      unattributed := bandwise un
      g := if g.noUnits then g.p else bandwise fun b => f.f[b] + un b
      allArea := g.noUnits }

/-- The results of AREA (R32, R33). -/
def areaShares (g : Gathered) (c : ConsumptionParts) : Bands (List Nat) :=
  if g.members = [] then bandwise fun _ => [] else bandwise fun b => apportion c.g[b] g.areas

/-- The standing shares, none without a charge (R34). -/
def standingShares (g : Gathered) : Option (List Nat) :=
  g.standing.map fun c => if g.members = [] then [] else apportion c g.areas

/-! ### POST (R35 to R40) -/

/-- A member's energy per band (R33). -/
def memberEnergy (c : ConsumptionParts) (a : Bands (List Nat)) (i : Nat) : Bands Nat :=
  bandwise fun b => c.shares[b].getD i 0 + a[b].getD i 0

/-- A member's standing share, 0 without a charge. -/
def memberStanding (st : Option (List Nat)) (i : Nat) : Nat := (st.getD []).getD i 0

/-- The account is OPEN, so that its own ledger is posted to (R36). -/
def State.isOpen (s : State) (a : AccountNo) : Bool := s.accounts[a] == .opened

/-- The energy per band that a list of amounts adds to the house, for the members that are not OPEN (R37). -/
def State.houseEnergy (s : State) (g : Gathered) (e : Nat → Bands Nat) (b : BandNo) : Nat :=
  ((List.range g.members.length).map fun i =>
    match g.members[i]? with
    | some m => if s.isOpen m.account then 0 else (e i)[b]
    | none => 0).sum

/-- An own-ledger posting with its count and flags (R36, R39); the mark says that an addition saturated. -/
def State.postOwn (x : State × Bool) (a : AccountNo) (p : Posting) (g : Gathered) : State × Bool :=
  (x.1.updLedger a fun l => (l.post p).countSettlement (decide (0 < g.estimated)) g.inputSaturated, x.2 || x.1.ledgers[a].saturates p)

/-- A VACANT member's posting to the house, itemised from vacancies (R37, R50). -/
def State.postVacancy (x : State × Bool) (p : Posting) : State × Bool :=
  let spill := overflows lim48 x.1.house.fromVacancies p.energy.total
  (((x.1.updLedger 0 fun l => (l.post p).markSaturated spill).withHouse
      { x.1.house with fromVacancies := satAdd lim48 x.1.house.fromVacancies p.energy.total }),
    x.2 || x.1.ledgers[(0 : AccountNo)].saturates p || spill)

/-- A memberless zone's posting to the house, itemised (R37, R50). -/
def State.postMemberless (x : State × Bool) (p : Posting) : State × Bool :=
  let spill := overflows lim48 x.1.house.fromMemberless p.energy.total
  (((x.1.updLedger 0 fun l => (l.post p).markSaturated spill).withHouse
      { x.1.house with fromMemberless := satAdd lim48 x.1.house.fromMemberless p.energy.total }),
    x.2 || x.1.ledgers[(0 : AccountNo)].saturates p || spill)

/-- The house ledger's count and flags, once for the settlement (R39). -/
def State.countHouse (x : State × Bool) (g : Gathered) : State × Bool :=
  (x.1.updLedger 0 (Ledger.countSettlement (decide (0 < g.estimated)) g.inputSaturated), x.2)

/-- The posting of one member, to its own ledger or to the house by its account's state (R36, R37). -/
def State.postMember (open? : AccountNo → Bool) (g : Gathered) (posting : Nat → Posting) (x : State × Bool) (im : Nat × Snapshot) :
    State × Bool :=
  if open? im.2.account then State.postOwn x im.2.account (posting im.1) g else State.postVacancy x (posting im.1)

/-- Every posting of the settlement, with the mark that an addition saturated (R36 to R39). -/
def State.postAll (s : State) (g : Gathered) (posting : Nat → Posting) (whole : Posting) : State × Bool :=
  if g.members = [] then State.countHouse (State.postMemberless (s, false) whole) g
  else
    let x := (g.members.zipIdx.map fun mi => (mi.2, mi.1)).foldl (State.postMember s.isOpen g posting) (s, false)
    if g.members.all fun m => s.isOpen m.account then x else State.countHouse x g

/-- The settlement record (R40). -/
def settlementRecord (g : Gathered) (f : FixedParts) (c : ConsumptionParts) (house : BandNo → Nat) (saturated : Bool) :
    SettlementRecord :=
  { number := g.number
    cause := g.cause
    cycle := g.cycle
    bands := bandwise fun b => ⟨g.p[b], f.f[b], f.c[b], c.unattributed[b], house b⟩
    estimated := g.estimated
    standing := g.standing
    memberCount := g.members.length
    allArea := c.allArea
    noMembers := g.members.isEmpty
    saturated := g.inputSaturated || saturated }

/-- POST (R35): prices and account states are read at the start of the act. -/
def State.postSettlement (s : State) (z : ZoneNo) (g : Gathered) (f : FixedParts) (c : ConsumptionParts) (a : Bands (List Nat)) : State :=
  let prices := s.prices.get g.mode
  let energy := memberEnergy c a
  let x := s.postAll g (fun i => ⟨g.mode, prices, energy i, memberStanding s.sen.scratch.standing i⟩)
    ⟨g.mode, prices, g.p, g.standing.getD 0⟩
  let house := if g.members = [] then fun b => g.p[b] else s.houseEnergy g energy
  x.1.withRecords (s.records.set z (settlementRecord g f c house x.2))

/-! ### RELEASE (R41) -/

/-- RELEASE of a zone (R41, log 22). -/
def State.releaseZone (s : State) (z : ZoneNo) : State :=
  ((((s.updZone z fun r => { r with state := .opened, closing := .zero, members := r.members.map fun m => { m with closingW := .zero } }).withChannels
    (mapChannels (fun c => if c.zone = some z then { c with closing := .zero } else c) s.channels)).flag (.addSettled z))).withSen .cold

/-! ### READ SETTLEMENT (R42) -/

/-- The reply of READ SETTLEMENT (R42). -/
def State.settlementReply (s : State) (z : ZoneNo) : SettlementReply :=
  ⟨z, s.zones[z].state, s.zones[z].number, s.queue.length, if s.zones[z].state = .queued then some (s.queue.idxOf z) else none,
    if s.zones[z].state = .settling then some s.sen.stage else none, s.records[z]⟩

/-- READ SETTLEMENT (R42). -/
def readSettlementOwner (zone : Byte) (s : State) : Answer :=
  withZone zone s fun z => accept (.settlement (s.settlementReply z)) s

/-! ### The meanings -/

/-- SEN_TAKE_ZONE (R23). -/
def execSenTakeZone (s : State) : Host.Outcome State Fault Refusal :=
  .next (if s.mainRuns && s.sen.stage == .idle then s.takeZone else s)

/-- GATHER (R26). -/
def execGather (s : State) : Host.Outcome State Fault Refusal :=
  .next (match s.atStage .gather with
    | some z => s.toStage .fixed { Scratch.empty with gathered := some (s.gathered z) }
    | none => s)

/-- FIXED (R27). -/
def execFixed (s : State) : Host.Outcome State Fault Refusal :=
  .next (match s.atStage .fixed, s.sen.scratch.gathered with
    | some _, some g => s.toStage .consumption { s.sen.scratch with fixed := some (fixedParts g) }
    | _, _ => s)

/-- CONSUMPTION (R30). -/
def execConsumption (s : State) : Host.Outcome State Fault Refusal :=
  .next (match s.atStage .consumption, s.sen.scratch.gathered, s.sen.scratch.fixed with
    | some _, some g, some f => s.toStage .area { s.sen.scratch with consumption := some (consumptionParts g f) }
    | _, _, _ => s)

/-- AREA (R32). -/
def execArea (s : State) : Host.Outcome State Fault Refusal :=
  .next (match s.atStage .area, s.sen.scratch.gathered, s.sen.scratch.consumption with
    | some _, some g, some c => s.toStage .standing { s.sen.scratch with area := some (areaShares g c) }
    | _, _, _ => s)

/-- STANDING (R34). -/
def execStanding (s : State) : Host.Outcome State Fault Refusal :=
  .next (match s.atStage .standing, s.sen.scratch.gathered with
    | some _, some g => s.toStage .post { s.sen.scratch with standing := standingShares g }
    | _, _ => s)

/-- POST (R35). -/
def execPost (s : State) : Host.Outcome State Fault Refusal :=
  .next (match s.atStage .post, s.sen.scratch.gathered, s.sen.scratch.fixed, s.sen.scratch.consumption, s.sen.scratch.area with
    | some z, some g, some f, some c, some a => (s.postSettlement z g f c a).toStage .release s.sen.scratch
    | _, _, _, _, _ => s)

/-- RELEASE (R41). -/
def execRelease (s : State) : Host.Outcome State Fault Refusal :=
  .next (match s.atStage .release with
    | some z => s.releaseZone z
    | none => s)

/-- READ_SETTLEMENT (R42). -/
def execReadSettlement (zone : Byte) (s : State) : Host.Outcome State Fault Refusal :=
  .next (s.take (.readSettlement zone) 0x51 (readSettlementOwner zone))

end Sys2Proof.Machine
end

