-- ==== Sys2Proof/Machine/Dispatch.lean ====
section
/-! DEFINITION. One arm for each command: the one direct call of its meaning. -/

namespace Sys2Proof.Machine

def exec (i : Instr) (s : State) : Host.Outcome State Fault Refusal :=
  match i with
  -- General requests (section 9.4)
  | .identify => Sys2Proof.Machine.execIdentify s
  | .readEvents selector => Sys2Proof.Machine.execReadEvents selector s
  | .setEventMask mask => Sys2Proof.Machine.execSetEventMask mask s
  -- Channels and converter
  | .configureChannel channel mode zone pulseValue k minDT fallbackDT minPeriod noFlowLimit filter edge => Sys2Proof.Machine.execConfigureChannel channel mode zone pulseValue k minDT fallbackDT minPeriod noFlowLimit filter edge s
  | .startChannel channel => Sys2Proof.Machine.execStartChannel channel s
  | .pauseChannel channel => Sys2Proof.Machine.execPauseChannel channel s
  | .resumeChannel channel => Sys2Proof.Machine.execResumeChannel channel s
  | .stopChannel channel => Sys2Proof.Machine.execStopChannel channel s
  | .readChannel channel => Sys2Proof.Machine.execReadChannel channel s
  | .configureConverter gateLength holdLimit => Sys2Proof.Machine.execConfigureConverter gateLength holdLimit s
  | .setCalibration sensor a b => Sys2Proof.Machine.execSetCalibration sensor a b s
  | .readSensor sensor => Sys2Proof.Machine.execReadSensor sensor s
  -- Zones, accounts and tariff
  | .defineZone zone mode fixedShare external => Sys2Proof.Machine.execDefineZone zone mode fixedShare external s
  | .deleteZone zone => Sys2Proof.Machine.execDeleteZone zone s
  | .addMember zone account area => Sys2Proof.Machine.execAddMember zone account area s
  | .removeMember zone account => Sys2Proof.Machine.execRemoveMember zone account s
  | .readZone zone first => Sys2Proof.Machine.execReadZone zone first s
  | .openAccount account => Sys2Proof.Machine.execOpenAccount account s
  | .vacateAccount account => Sys2Proof.Machine.execVacateAccount account s
  | .freeAccount account => Sys2Proof.Machine.execFreeAccount account s
  | .setPrices mode p0 p1 p2 p3 => Sys2Proof.Machine.execSetPrices mode p0 p1 p2 p3 s
  | .setBand band => Sys2Proof.Machine.execSetBand band s
  -- Attribution
  | .writePoint index serial zoneFilter kind account factor => Sys2Proof.Machine.execWritePoint index serial zoneFilter kind account factor s
  | .clearPoint index => Sys2Proof.Machine.execClearPoint index s
  | .readPoint index => Sys2Proof.Machine.execReadPoint index s
  -- Allocator bus and nodes
  | .configureBus cycleLength guard retryLimit silentLimit ageLimit sweepInterval => Sys2Proof.Machine.execConfigureBus cycleLength guard retryLimit silentLimit ageLimit sweepInterval s
  | .busOn => Sys2Proof.Machine.execBusOn s
  | .busOff => Sys2Proof.Machine.execBusOff s
  | .startSweep => Sys2Proof.Machine.execStartSweep s
  | .readNode selector key => Sys2Proof.Machine.execReadNode selector key s
  | .releaseNode serial disposition => Sys2Proof.Machine.execReleaseNode serial disposition s
  | .forgetNode serial => Sys2Proof.Machine.execForgetNode serial s
  -- Settlement and ledgers
  | .settle body => Sys2Proof.Machine.execSettle body s
  | .readSettlement zone => Sys2Proof.Machine.execReadSettlement zone s
  | .peekStatement account kind => Sys2Proof.Machine.execPeekStatement account kind s
  | .collectStatement account => Sys2Proof.Machine.execCollectStatement account s
  -- Maintenance
  | .readCounters group => Sys2Proof.Machine.execReadCounters group s
  | .factoryClear => Sys2Proof.Machine.execFactoryClear s
  -- Host link events
  | .unknownRequest type length => Sys2Proof.Machine.execUnknownRequest type length s
  | .badFrame cause => Sys2Proof.Machine.execBadFrame cause s
  | .linkOverrun => Sys2Proof.Machine.execLinkOverrun s
  | .lineIdle => Sys2Proof.Machine.execLineIdle s
  | .replySent => Sys2Proof.Machine.execReplySent s
  -- Supplies, RESET pin and starts
  | .mainSupplyLoss backupUsable => Sys2Proof.Machine.execMainSupplyLoss backupUsable s
  | .mainSupplyRise => Sys2Proof.Machine.execMainSupplyRise s
  | .qualificationComplete => Sys2Proof.Machine.execQualificationComplete s
  | .retentionLoss => Sys2Proof.Machine.execRetentionLoss s
  | .resetAssert => Sys2Proof.Machine.execResetAssert s
  | .resetRelease => Sys2Proof.Machine.execResetRelease s
  | .coldStartEnd => Sys2Proof.Machine.execColdStartEnd s
  -- Pulse inputs
  | .acceptedChange input => Sys2Proof.Machine.execAcceptedChange input s
  | .inputSettling input => Sys2Proof.Machine.execInputSettling input s
  | .noFlow input sample => Sys2Proof.Machine.execNoFlow input sample s
  -- Converter gates
  | .referenceGate count => Sys2Proof.Machine.execReferenceGate count s
  | .gateComplete count => Sys2Proof.Machine.execGateComplete count s
  | .gateOverflow => Sys2Proof.Machine.execGateOverflow s
  -- Allocator bus events
  | .beaconInstant => Sys2Proof.Machine.execBeaconInstant s
  | .beaconSent => Sys2Proof.Machine.execBeaconSent s
  | .readTransactionStart => Sys2Proof.Machine.execReadTransactionStart s
  | .reading delay frame => Sys2Proof.Machine.execReading delay frame s
  | .here delay frame => Sys2Proof.Machine.execHere delay frame s
  | .enrolled delay frame => Sys2Proof.Machine.execEnrolled delay frame s
  | .replyTimeout => Sys2Proof.Machine.execReplyTimeout s
  | .replyWindowClose => Sys2Proof.Machine.execReplyWindowClose s
  | .attemptEnd => Sys2Proof.Machine.execAttemptEnd s
  -- Attribution Unit acts
  | .acceptanceAct => Sys2Proof.Machine.execAcceptanceAct s
  | .missAct => Sys2Proof.Machine.execMissAct s
  | .learning => Sys2Proof.Machine.execLearning s
  | .setExpectedToggle => Sys2Proof.Machine.execSetExpectedToggle s
  | .nodeTableOpEnd waited => Sys2Proof.Machine.execNodeTableOpEnd waited s
  -- Settlement Engine stages
  | .senTakeZone => Sys2Proof.Machine.execSenTakeZone s
  | .gather => Sys2Proof.Machine.execGather s
  | .fixed => Sys2Proof.Machine.execFixed s
  | .consumption => Sys2Proof.Machine.execConsumption s
  | .area => Sys2Proof.Machine.execArea s
  | .standing => Sys2Proof.Machine.execStanding s
  | .post => Sys2Proof.Machine.execPost s
  | .release => Sys2Proof.Machine.execRelease s
  -- Ticks and bytes
  | .tick input sample => Sys2Proof.Machine.execTick input sample s
  | .byteReceived byte framingError => Sys2Proof.Machine.execByteReceived byte framingError s

end Sys2Proof.Machine
end

