-- ==== Sys2Proof/Safety.lean ====
section
/-! DEFINITION. What the statements speak of: the state after an answered request, runs, and the invariants of the part. -/

namespace Sys2Proof.Machine

/-- LINK after a request answered with this status and content: the frame is counted when it has just come in, a refusal is counted,
and the reply is in SEND (R172, R174, R176). -/
def Link.answered (l : Link) (type : Byte) (status : Status) (content : Content) : Link :=
  { l with
    receiver := .send ⟨type ||| 0x80#8, status, content⟩
    framesTaken := if l.receiver = .hunt then inc32 l.framesTaken else l.framesTaken
    refusals := if status = .ok then l.refusals else inc32 l.refusals }

/-- LINK holds a request or sends a reply (R174 to R176). -/
def Link.isBusy (l : Link) : Prop :=
  (∃ r, l.receiver = .send r) ∨ (∃ ty body, l.receiver = .process ty body) ∨ ∃ ty, l.receiver = .processTaken ty

/-- The state in which nothing has changed but LINK, which answers the request. -/
def State.answered (s : State) (type : Byte) (status : Status) (content : Content) : State :=
  s.withLink (s.link.answered type status content)

/-- The command is a host request, which its owner takes or LINK refuses. -/
def isRequest : Instr → Bool
  | .unknownRequest _ _ | .settle _ => true
  | i => (encodeRequest i).isSome

/-- `k` steps lead from one state to another. -/
def runsTo (k : Nat) (s t : State) : Prop := Sys2Proof.core.run k s = .next t

/-! ### What the families of commands leave alone -/

/-- The fields that no command of the bus, the nodes and their acts touches. -/
def State.besideBus (s : State) :=
  (s.ssv, s.accounts, s.prices, s.band, s.records, s.sen, s.ledgers, s.house, s.inputs, s.tcv, s.points, s.pending)

/-- What an entry of the flags may not lose: LINK without its flags. -/
def Link.besideFlags (l : Link) :=
  (l.receiver, l.burst, l.mask, l.eventsRead, l.copy, l.framesTaken, l.refusals, l.badFrames, l.overruns, l.noise, l.startCount, l.lastStart)

/-- The fields that no supply or pin event touches short of a cold start. -/
def State.besideSupply (s : State) :=
  (s.accounts, s.prices, s.band, s.records, s.ledgers, s.house, s.inputs, s.nodes, s.points, s.freeUses, s.pending)

/-! ### Closes, cycles and failed attempts -/

/-- From `s` to `t` every ARMED zone has closed with this cause and cycle number, in ascending zone number, each with the channels assigned
to it, and no other zone or channel has changed (R16 to R18). -/
def closesArmed (cause : CloseCause) (cycle : Word16) (s t : State) : Prop :=
  (∀ z : ZoneNo, s.zones[z].state = .armed → t.zones[z] = s.zones[z].close cause cycle s.zones[z].armed) ∧
    (∀ z : ZoneNo, s.zones[z].state ≠ .armed → t.zones[z] = s.zones[z]) ∧
    (∀ c : ChannelNo, (∃ z : ZoneNo, s.channels[c].zone = some z ∧ s.zones[z].state = .armed) → t.channels[c] = s.channels[c].close) ∧
    (∀ c : ChannelNo, (∀ z : ZoneNo, s.channels[c].zone = some z → s.zones[z].state ≠ .armed) → t.channels[c] = s.channels[c]) ∧
    t.queue = s.queue ++ allZones.filter fun z => s.zones[z].state == .armed

/-- From `s` to `t` a cycle has begun, apart from what the end of a cycle before it does to the rotation position and the overrun total (R126,
R138); LINK is left to the one who uses this. The count toward the automatic sweep goes on rising while a sweep is active: the model's choice
(log 34). -/
def cycleBegins (s t : State) : Prop :=
  closesArmed .cycleEnd (s.abm.cycleNumber + 1) s t ∧ t.besideBus = s.besideBus ∧ t.nodes = s.nodes ∧ t.atu = s.atu ∧
    t.freeUses = s.freeUses ∧
    ∃ (sw : Sweep) (n : Nat),
      t.abm = { s.abm with
        cycleNumber := s.abm.cycleNumber + 1
        cycle := some ⟨.beacon, s.abm.config.cycleLength * 2400, 0, 0, none⟩
        activity := .beacon
        counters := { s.abm.counters with cycles := inc32 s.abm.counters.cycles }
        rotation := t.abm.rotation, totals := t.abm.totals, sweep := sw, sweepCount := n } ∧
      (s.abm.config.sweepInterval = 0 → sw = s.abm.sweep ∧ n = s.abm.sweepCount) ∧
      (0 < s.abm.config.sweepInterval → s.abm.sweep.active = true → sw = s.abm.sweep ∧ n = min (s.abm.sweepCount + 1) 255) ∧
      (0 < s.abm.config.sweepInterval → min (s.abm.sweepCount + 1) 255 < s.abm.config.sweepInterval →
        sw = s.abm.sweep ∧ n = min (s.abm.sweepCount + 1) 255) ∧
      (0 < s.abm.config.sweepInterval → s.abm.sweep.active = false → s.abm.config.sweepInterval ≤ min (s.abm.sweepCount + 1) 255 →
        sw = ⟨true, [⟨0x00000000#32, 0xFFFFFFFF#32⟩]⟩ ∧ n = 0)

/-- From `s` to `t` the bus stop has taken effect: ARMED zones have closed, an active sweep has ended as aborted, and the bus is OFF (R17, R125). -/
def busStops (s t : State) : Prop :=
  closesArmed .busStop s.abm.cycleNumber s t ∧ t.besideBus = s.besideBus ∧ t.nodes = s.nodes ∧ t.atu = s.atu ∧
    (s.abm.sweep.active = false → t.abm = { s.abm with bus := .off, cycle := none, activity := .none } ∧ t.link = s.link) ∧
    (s.abm.sweep.active = true →
      t.abm = { s.abm with bus := .off, cycle := none, activity := .none, sweep := ⟨false, []⟩, lastSweep := .abortedStop } ∧
      t.link = { s.link with flags := { s.link.flags with sweepDone := true } })

/-- A READ attempt to this serial has failed with this reply, and `after` are the bus counters with the failure counted (R132). -/
def failedRead (serial : Serial) (reply : AttemptReply) (before after : BusCounters) : Prop :=
  (reply = .timedOut ∧ after = { before with timeouts := min (before.timeouts + 1) (2 ^ 32 - 1) }) ∨
    (reply = .damaged ∧ after = { before with crcErrors := min (before.crcErrors + 1) (2 ^ 32 - 1) }) ∨
    (∃ d r, reply = .reading d r ∧ r.serial ≠ serial ∧
      after = { before with wrongResponders := min (before.wrongResponders + 1) (2 ^ 32 - 1) }) ∨
    (∃ d r, reply = .reading d r ∧ r.serial = serial ∧ r.status = .busy ∧ after = before)

/-- The entry is in the Node Table, and no removal of it has begun (R150). -/
def isPresent (s : State) (x : NodeEntry) : Prop := x ∈ s.nodes ∧ ∀ why, s.atu.op ≠ some (.removal x.serial why)

/-- The entry comes after the poll cursor in rotation order, upwards from the rotation position and round (R130). -/
def isAhead (s : State) (c : Cycle) (x : NodeEntry) : Prop :=
  ∀ k, c.cursor = some k → (k - s.abm.rotation).toNat < (x.serial - s.abm.rotation).toNat

/-- `x` is the next entry of a POLL phase: it comes after the cursor in rotation order, before every other that does (R130). -/
def isNextEntry (s : State) (c : Cycle) (x : NodeEntry) : Prop :=
  (isPresent s x ∧ isAhead s c x) ∧
    ∀ y, isPresent s y → isAhead s c y → y = x ∨ (x.serial - s.abm.rotation).toNat < (y.serial - s.abm.rotation).toNat

/-! ### What follows an attempt or a wait -/

/-- The budget and the guard let an attempt start (R128). -/
abbrev mayStart (s : State) (c : Cycle) : Prop := c.elapsed < c.budget ∧ s.abm.config.guard ≤ c.budget - c.elapsed

/-- The bus counters with one transaction more. -/
def BusCounters.oneMore (k : BusCounters) : BusCounters := { k with transactions := min (k.transactions + 1) (2 ^ 32 - 1) }

/-- The state with nothing in hand and its cycle in WAIT (R128). -/
def State.waiting (s : State) (c : Cycle) : State := s.withAbm { s.abm with activity := .none, cycle := some { c with phase := .wait } }

/-- From `s`, whose cycle `c` ends, to `t` the next cycle has begun: the first entry that POLL did not reach gives the rotation position (R130),
and a cycle that went beyond its budget counts as an overrun (R129), one that ended exactly at it or not (log 7). -/
def cycleEnds (s : State) (c : Cycle) (t : State) : Prop :=
  cycleBegins s t ∧ (c.phase ≠ .poll → t.abm.rotation = s.abm.rotation) ∧
    (∀ e, c.phase = .poll → isNextEntry s c e → t.abm.rotation = e.serial) ∧
    (c.phase = .poll → (∀ e, isPresent s e → ¬isAhead s c e) → t.abm.rotation = s.abm.rotation) ∧
    ((c.elapsed ≤ c.budget ∧ t.link = s.link ∧ t.abm.totals = s.abm.totals) ∨
      (c.budget ≤ c.elapsed ∧ t.link = { s.link with flags := { s.link.flags with cycleOverrun := true } } ∧
        t.abm.totals = { s.abm.totals with overruns := min (s.abm.totals.overruns + 1) (2 ^ 32 - 1) }))

/-- From `s`, whose cycle `c` has nothing in hand, to `t` nothing has happened, or the budget has run out and the next cycle has begun (R126, R129). -/
def goesOn (s : State) (c : Cycle) (t : State) : Prop := (c.elapsed < c.budget → t = s) ∧ (c.budget ≤ c.elapsed → cycleEnds s c t)

/-- The state after the sweep has ended in its SWEEP phase with this outcome: the stack is emptied, SWEEP_DONE set, the phase WAIT (R144). -/
def State.sweepOver (s : State) (c : Cycle) (o : SweepOutcome) : State :=
  (s.withAbm { s.abm with cycle := some { c with phase := .wait }, sweep := ⟨false, []⟩, lastSweep := o }).withLink
    { s.link with flags := { s.link.flags with sweepDone := true } }

/-- The state after a ROLL CALL over the range taken from the top of the stack has begun (R139). -/
def State.asked (s : State) (g : Range) (rest : List Range) : State :=
  s.withAbm { s.abm with
    activity := .attempt (.rollCall g) 1 none, sweep := { s.abm.sweep with stack := rest }, counters := s.abm.counters.oneMore }

/-- The state after a popped range has been put back on the stack (R142). -/
def State.restacked (s : State) (g : Range) : State :=
  s.withAbm { s.abm with sweep := { s.abm.sweep with stack := g :: s.abm.sweep.stack } }

/-- The state after a popped range has been split at its middle, the lower half on top, or has ended the sweep where the stack has no room for
the halves, or has been dropped as a single serial (R143). -/
def State.halved (s : State) (c : Cycle) (r : Range) : State :=
  if r.lo < r.hi then
    if s.abm.sweep.stack.length ≤ 30 then
      (s.restacked ⟨BitVec.ofNat 32 ((r.lo.toNat + r.hi.toNat) / 2 + 1), r.hi⟩).restacked ⟨r.lo, BitVec.ofNat 32 ((r.lo.toNat + r.hi.toNat) / 2)⟩
    else s.sweepOver c .abortedStackFull
  else s

/-- From `s`, in which an attempt or a wait has ended with its time counted, its outcome taken and nothing handed to the ATU, to `t`: a pending
stop has taken effect (R125); in SWEEP the sweep has completed, has asked its next range, or is stopped by the guard (R139); and a cycle without
budget has ended (R129). -/
def worksOn (s t : State) : Prop :=
  (s.abm.bus = .stopping → busStops s t) ∧
    ∀ c, s.abm.bus = .running → s.abm.cycle = some c →
      (c.phase ≠ .sweep → goesOn s c t) ∧
      (c.phase = .sweep →
        (s.abm.sweep.stack = [] → goesOn (s.sweepOver c .completed) { c with phase := .wait } t) ∧
        ∀ g rest, s.abm.sweep.stack = g :: rest →
          (mayStart s c → t = s.asked g rest) ∧ (¬mayStart s c → goesOn (s.waiting c) { c with phase := .wait } t))

/-- From `s`, whose POLL phase has reached every entry, to `t`: WAIT follows, or SWEEP when a sweep is active, with its first step (R127, R139). -/
def pollEnds (s : State) (c : Cycle) (t : State) : Prop :=
  (s.abm.sweep.active = false → t = s.waiting c) ∧
    (s.abm.sweep.active = true →
      (s.abm.sweep.stack = [] → t = s.sweepOver c .completed) ∧
      ∀ g rest, s.abm.sweep.stack = g :: rest →
        (mayStart s c → t = (s.withAbm { s.abm with cycle := some { c with phase := .sweep } }).asked g rest) ∧
        (¬mayStart s c → t = s.waiting c))

/-- The bus status record when `n` bit times have passed since the last bus event: the remaining budget is the budget less the elapsed time
(R123, R128). -/
def State.busRecord (s : State) (n : Nat) : BusStatus :=
  ⟨s.abm.bus, s.abm.cycle.map (·.phase), s.abm.cycleNumber, s.abm.cycle.map (fun c => (c.budget : Int) - c.elapsed - n), s.abm.rotation,
    s.abm.sweep.active, s.abm.sweep.stack.length, s.abm.sweepCount, s.abm.lastSweep, s.abm.config⟩

/-- The state in which `n` bit times have been counted since the last bus event (log 6). -/
def State.counting (s : State) (n : Nat) : State := s.withAbm { s.abm with cycle := s.abm.cycle.map fun c => { c with passed := n } }

/-- The count of bit times since the last bus event has not gone back (log 6). -/
def State.countsOn (s : State) (n : Nat) : Prop := ∀ c, s.abm.cycle = some c → c.passed ≤ n

/-! ### Terms of the rules, spelled out -/

/-- The close terms that a SETTLE entry gives: its standing charge and its external energies, where present (R15). -/
def givesTerms (e : SettleEntry) (t : CloseTerms) : Prop :=
  t.standing = e.standing.map (·.toNat) ∧ (e.energies = none → t.energies = none) ∧
    ∀ v, e.energies = some v → ∃ w : Bands Nat, t.energies = some w ∧ ∀ b : BandNo, w[b] = v[b].toNat

/-- A valid point matches a reading of this serial and zone (R159). -/
def pointMatches (p : Point) (x : Serial) (z : ZoneNo) : Prop :=
  p.valid = true ∧ p.serial = x ∧ (p.zoneFilter = none ∨ p.zoneFilter = some z)

/-- The scan set in ascending sensor number: the two sensors of every channel that is not DISABLED (R103, R106, R107). -/
def isScanSet (s : State) (l : List SensorNo) : Prop :=
  l.Pairwise (· < ·) ∧ ∀ (n : SensorNo) (c : ChannelNo), c.val = n.val / 2 → (n ∈ l ↔ s.channels[c].state ≠ .disabled)

/-- A posting of these energies, at these prices, and this standing amount carries a total of the ledger beyond its limit (R49, R51). -/
def goesBeyond (l : Ledger) (m : Mode) (e price : BandNo → Nat) (st : Nat) : Prop :=
  (∃ b : BandNo, 2 ^ 40 - 1 < (l.unbilled.energy.get m)[b] + e b ∨ 2 ^ 64 - 1 < (l.unbilled.cost.get m)[b] + e b * price b) ∨
    2 ^ 64 - 1 < l.unbilled.standing + st ∨ 2 ^ 48 - 1 < l.lifetime.energy.get m + (e 0 + e 1 + e 2 + e 3)

/-! ### Invariants -/

/-- Account 0 is OPEN, and every FREE account has an all-zero unbilled ledger (R1). -/
def State.AccountsSound (s : State) : Prop :=
  s.accounts[(0 : AccountNo)] = .opened ∧ ∀ a : AccountNo, s.accounts[a] = .free → s.ledgers[a].unbilled = .zero

/-- A member list holds at most 32 members in strictly ascending account order, none of them account 0 or a FREE account, each with an area
of at least 1 (R11). -/
def State.MembersSound (s : State) : Prop :=
  ∀ z : ZoneNo, s.zones[z].members.Pairwise (fun a b => a.account < b.account) ∧ s.zones[z].members.length ≤ 32 ∧
    ∀ m ∈ s.zones[z].members, m.account ≠ 0 ∧ s.accounts[m.account] ≠ .free ∧ 1 ≤ m.area

/-- No two valid points share a serial while their zone filters overlap (R164). -/
def State.PointsSound (s : State) : Prop :=
  ∀ i j : PointNo, i ≠ j → s.points[i].valid = true → s.points[j].valid = true → s.points[i].serial = s.points[j].serial →
    filtersOverlap s.points[i].zoneFilter s.points[j].zoneFilter = false

/-- Each channel's carry is below 100,000,000 (R77). -/
def State.CarryBelow (s : State) : Prop := ∀ c : ChannelNo, s.channels[c].carry < 100000000

/-- An input is RUNNING exactly while its channel is not DISABLED (R87). -/
def State.InputsFollow (s : State) : Prop := ∀ c : ChannelNo, s.inputs[c].running = true ↔ s.channels[c].state ≠ .disabled

/-- In RUNNING, HOLD and SUBSTITUTE the channel state is the one of the sensor status (R65). -/
def State.StatesMirror (s : State) : Prop :=
  ∀ c : ChannelNo, s.channels[c].state.integrating = true → s.channels[c].state = s.channels[c].status.channelState

/-- A pulse waits only in the handover of a RUNNING input (R92, R99). -/
def State.HandoversFollow (s : State) : Prop := ∀ c : ChannelNo, s.inputs[c].handover ≠ none → s.inputs[c].running = true

/-- The closing half of a zone, its members and its channels holds something only while the zone is QUEUED or SETTLING (R13, R81). -/
def State.ClosingSound (s : State) : Prop :=
  (∀ z : ZoneNo, s.zones[z].state.closed = false → s.zones[z].closing = .zero ∧ ∀ m ∈ s.zones[z].members, m.closingW = .zero) ∧
    ∀ c : ChannelNo, (∀ z : ZoneNo, s.channels[c].zone = some z → s.zones[z].state.closed = false) → s.channels[c].closing = .zero

/-- The queue holds exactly the QUEUED zones, each once, and the SETTLING zone is the one the SEN works on (R22 to R24). -/
def State.QueueSound (s : State) : Prop :=
  s.queue.Nodup ∧ (∀ z : ZoneNo, z ∈ s.queue ↔ s.zones[z].state = .queued) ∧
    (∀ z : ZoneNo, s.sen.zone = some z ↔ s.zones[z].state = .settling) ∧ (s.sen.zone = none ↔ s.sen.stage = .idle)

/-- The Node Table is in strictly ascending serial order and holds at most 384 entries, one place being kept for an insertion in progress,
whose serial is absent (R148, R150). -/
def State.TableSound (s : State) : Prop :=
  s.nodes.Pairwise (fun a b => a.serial < b.serial) ∧ s.nodes.length ≤ 384 ∧
    ∀ h : HereReply, s.atu.op = some (.insertion h) → s.nodes.length < 384 ∧ ∀ e ∈ s.nodes, e.serial ≠ h.serial

/-- A quarantine tally is above 0, or its mark set, only while the entry is HALTED (R162). -/
def State.QuarantineSound (s : State) : Prop := ∀ e ∈ s.nodes, e.state ≠ .halted → e.tally = 0 ∧ e.tallySaturated = false

/-- What the supply state, the marker and the RESET pin allow the main domain (R188, R190 to R196): it is off unless main supply is qualified,
it runs only with a valid marker and a released pin, a cold start has the marker lost, it is held only by the pin, and a backup domain that has lost
its supply has the marker lost with it. -/
def State.SupplySound (s : State) : Prop :=
  (s.ssv.domain ≠ .off → s.ssv.supply = .main ∧ s.ssv.mainPresent = true ∧ s.ssv.qualifying = false ∧ s.ssv.powered = true) ∧
    (s.ssv.domain = .running → s.ssv.markerValid = true ∧ s.ssv.resetAsserted = false) ∧
    (s.ssv.domain = .coldStart → s.ssv.markerValid = false ∧ s.ssv.resetAsserted = false) ∧
    (s.ssv.domain = .held → s.ssv.resetAsserted = true) ∧
    (s.ssv.powered = false → s.ssv.markerValid = false)

/-- A main domain that does not run holds no working state (R189). -/
def State.Quiescent (s : State) : Prop :=
  s.ssv.domain ≠ .running →
    s.link.receiver = .discard ∧ s.link.burst = false ∧ s.tcv.round = none ∧ s.abm.cycle = none ∧ s.abm.activity = .none ∧
      s.abm.sweep = ⟨false, []⟩ ∧ s.atu.op = none ∧ s.atu.handed = none ∧ s.sen = .cold

/-- The range that a transaction or a wait of the sweep has popped (R139 to R142). -/
def Activity.range : Activity → Option Range
  | .attempt (.rollCall r) _ _ => some r
  | .attempt (.enroll r _) _ _ => some r
  | .learning r _ => some r
  | .attempt (.read _ _) _ _ => Option.none
  | .none => Option.none
  | .beacon => Option.none

/-- The range that waits with an act handed over (R141, R142). -/
def HandedAct.range : HandedAct → Option Range
  | .learn r _ => r
  | .setToggle r _ => r
  | .accept _ => none
  | .miss _ => none

/-- The sweep stack holds at most 32 ranges, 31 while a popped one is in hand, each with lo ≤ hi, and none without a sweep; a popped range is in
one place; an OFF bus has no cycle, no work in hand, no sweep and no zone ARMED for the end of its cycle; a stopped main domain has its bus OFF or
RUNNING and no zone ARMED (R15, R17, R123, R125, R138, R143, R147). -/
def State.BusSound (s : State) : Prop :=
  s.abm.sweep.stack.length ≤ 32 ∧ (∀ r ∈ s.abm.sweep.stack, r.lo ≤ r.hi) ∧ (s.abm.sweep.active = false → s.abm.sweep.stack = []) ∧
    (∀ r, s.abm.activity.range = some r → r.lo ≤ r.hi ∧ s.abm.sweep.stack.length ≤ 31 ∧ s.abm.sweep.active = true) ∧
    (∀ a r, s.atu.handed = some a → a.range = some r →
      r.lo ≤ r.hi ∧ s.abm.sweep.stack.length ≤ 31 ∧ s.abm.sweep.active = true ∧ s.abm.activity = .none) ∧
    (s.abm.bus = .off → s.abm.cycle = none ∧ s.abm.activity = .none ∧ s.abm.sweep.active = false ∧
      ∀ z : ZoneNo, s.zones[z].state ≠ .armed) ∧
    (s.ssv.domain ≠ .running → s.abm.bus ≠ .stopping ∧ ∀ z : ZoneNo, s.zones[z].state ≠ .armed)

end Sys2Proof.Machine
end

