-- ==== Sys2Proof/Certificates/Slice0/Obligations.lean ====
section
/-! DEFINITION. The statements for the provers. -/

open Sys2Proof Sys2Proof.Machine

/-! ### The queue and every command -/

/-- Step takes the command at the front of the queue and carries it out on the state with the rest of the queue. -/
def Obligations.StepRunsFront : Prop :=
  ∀ (i : Instr) (rest : List Instr) (s : State), s.pending = i :: rest → step s = exec i (s.withPending rest)

/-- Every command answers a next state and leaves the queue of commands as it was. That an event without its condition (log 2), and a request
that cannot be taken (log 3), answer the state unchanged is the model's choice. -/
def Obligations.EveryCommandCompletes : Prop := ∀ (i : Instr) (s : State), ∃ t, exec i s = .next t ∧ t.pending = s.pending

/-- Where nothing happens, by the model's choice: on an empty queue the block idles (log 1), and a request that LINK does not hold, with LINK
not in HUNT or the main domain stopped, changes nothing (log 3). -/
def Obligations.NothingHappens : Prop :=
  (∀ s : State, s.pending = [] → step s = .next s) ∧
    ∀ (i : Instr) (s : State), isRequest i = true → s.canTake i = false → exec i s = .next s

/-- A request answered with a status that is not OK changes nothing but LINK, whose reply carries the status alone and counts as a refusal. -/
def Obligations.RefusalChangesNothing : Prop :=
  ∀ (i : Instr) (s t : State) (r : Reply), exec i s = .next t → (∀ x, s.link.receiver ≠ .send x) → t.link.receiver = .send r →
    r.status ≠ .ok → ∃ type : Byte, t = s.answered type r.status .empty

/-- The state after a cold start, every item of it: the values of R1, R6, R20 to R22, R24, R40, R49, R50, R54, R61, R62, R83, R102, R104, R105,
R113, R117, R122, R147, R164, R169, R182, R183, R187, R188 and R196. That main supply is present and the RESET pin released is the model's
choice (log 20), and so are the fields of the model's own (log 1, 19, 21, 27). -/
def Obligations.ResetValues : Prop :=
  (∀ a : AccountNo, State.reset.accounts[a] = if a = 0 then .opened else .free) ∧
    (∀ z : ZoneNo, State.reset.zones[z] = ⟨.unused, .heating, 0, false, [], ⟨0, false⟩, ⟨⟨0, false⟩, ⟨none, none⟩, 0, .none, 0⟩, ⟨none, none⟩,
      .none, 0, 0⟩) ∧
    State.reset.prices = ⟨#v[0, 0, 0, 0], #v[0, 0, 0, 0]⟩ ∧ State.reset.band = 0 ∧ State.reset.queue = [] ∧
    State.reset.sen = ⟨.idle, none, ⟨none, none, none, none, none⟩⟩ ∧
    (∀ z : ZoneNo, State.reset.records[z] = ⟨0, .none, 0, #v[⟨0, 0, 0, 0, 0⟩, ⟨0, 0, 0, 0, 0⟩, ⟨0, 0, 0, 0, 0⟩, ⟨0, 0, 0, 0, 0⟩], 0, none, 0,
      false, false, false⟩) ∧
    (∀ (a : AccountNo) (u : Unbilled) (l : Lifetime),
      u = ⟨⟨#v[0, 0, 0, 0], #v[0, 0, 0, 0]⟩, ⟨#v[0, 0, 0, 0], #v[0, 0, 0, 0]⟩, 0, 0, false, false⟩ → l = ⟨⟨0, 0⟩, ⟨false, false⟩⟩ →
      State.reset.ledgers[a] = ⟨u, l, 0, ⟨a, if a = 0 then .opened else .free, .lastCollected, 0, false, u, l, ⟨0, 0⟩⟩⟩) ∧
    State.reset.house = ⟨0, 0⟩ ∧
    (∀ (c : ChannelNo) (h : ChannelHalf), h = ⟨#v[⟨0, false⟩, ⟨0, false⟩, ⟨0, false⟩, ⟨0, false⟩], ⟨0, false⟩⟩ →
      State.reset.channels[c] = ⟨.heating, none, 1000, 1161, 0, 0, .disabled, .normal, 0, ⟨0, false⟩, ⟨0, false⟩, 0, h, h, 0, 0, 0, 0,
        ⟨0, 0, 0, 0, 0, 0⟩⟩) ∧
    (∀ c : ChannelNo, State.reset.inputs[c] = ⟨2, .rising, 0, 3600, false, none, none, 0, 0, 0, false, false, false, none⟩) ∧
    State.reset.tcv.gateLength = 4096 ∧ State.reset.tcv.holdLimit = 8 ∧ State.reset.tcv.roundNumber = 0 ∧ State.reset.tcv.round = none ∧
    (∀ n : SensorNo, State.reset.tcv.calibration[n] = ⟨25974, -25974⟩ ∧
      State.reset.tcv.last[n] = ⟨.none, false, none, none, none, 0, 0⟩) ∧
    State.reset.abm = ⟨⟨60, 1232, 2, 3, 48, 0⟩, .off, 0, 0, 0, .none, ⟨0, 0, 0, 0, 0, 0⟩, ⟨0, 0, 0, 0, 0⟩, none, .none, ⟨false, []⟩, false⟩ ∧
    State.reset.nodes = [] ∧ (∀ i : PointNo, State.reset.points[i] = ⟨false, 0, none, .allocator, 1, 1000⟩) ∧
    State.reset.atu = ⟨none, none, ⟨0, 0, 0, 0, 0, 0, 0⟩, 0, 0⟩ ∧
    (∀ f : EventFlags, f = ⟨0, false, false, false, false, false, false, false, false, false, false, false⟩ →
      State.reset.link = ⟨.discard, false, { f with coldStart := true }, 0x0FFF#16, 0, ⟨0, f, 0x0FFF#16⟩, 0, 0, 0, 0, 0, 0, .cold⟩) ∧
    State.reset.ssv = ⟨.main, true, true, false, false, .running, true⟩ ∧ State.reset.freeUses = 0 ∧ State.reset.pending = []

/-! ### Frames and reception -/

/-- Every catalogued request is read back from its own TYPE and body (R178, R179). -/
def Obligations.RequestRoundTrip : Prop :=
  ∀ (i : Instr) (type : Byte) (body : List Byte), encodeRequest i = some (type, body) → i.wellFormed = true →
    decodeRequest type body = i ∧ body.length ≤ 249 ∧ catalogued type = true

/-- The bytes of a frame, received one after another from HUNT, bring its TYPE and body to PROCESS and count one frame taken (R171, R172). -/
def Obligations.FrameReception : Prop :=
  ∀ (type : Byte) (body : List Byte) (s : State), s.mainRuns = true → s.link.receiver = .hunt → body.length ≤ 249 →
    s.pending = (hostFrame type body).map (fun b => .byteReceived b false) →
    runsTo (body.length + 5) s
      ((s.withPending []).withLink { s.link with receiver := .process type body, framesTaken := inc32 s.link.framesTaken })

/-- One byte received, by the state of the receiver, the last of a frame among them, and the other events of the line: a frame abandoned, an
overrun, the line becoming idle, a reply sent (R172, R175, R176). A bad frame counted whole from HUNT is the model's choice (log 3), and so is
that the events change nothing in the other states of the receiver (log 2). -/
def Obligations.LineEvents : Prop :=
  (∀ (b : Byte) (bad : Bool) (s : State), s.mainRuns = true →
    (s.link.receiver = .hunt → b = 0xA5#8 → bad = false →
      exec (.byteReceived b bad) s = .next (s.withLink { s.link with receiver := .receive [] })) ∧
    (s.link.receiver = .hunt → (b ≠ 0xA5#8 ∨ bad = true) →
      exec (.byteReceived b bad) s = .next (s.withLink { s.link with noise := inc32 s.link.noise })) ∧
    (∀ bytes, s.link.receiver = .receive bytes → bad = true →
      exec (.byteReceived b bad) s = .next (s.withLink { s.link with receiver := .discard, badFrames := inc32 s.link.badFrames })) ∧
    (s.link.receiver = .receive [] → (b = 0#8 ∨ 250 < b.toNat) →
      exec (.byteReceived b bad) s = .next (s.withLink { s.link with receiver := .discard, badFrames := inc32 s.link.badFrames })) ∧
    (s.link.receiver = .receive [] → bad = false → 1 ≤ b.toNat → b.toNat ≤ 250 →
      exec (.byteReceived b bad) s = .next (s.withLink { s.link with receiver := .receive [b] })) ∧
    (∀ len rest, s.link.receiver = .receive (len :: rest) → bad = false → rest.length + 1 < len.toNat + 2 →
      exec (.byteReceived b bad) s = .next (s.withLink { s.link with receiver := .receive (len :: rest ++ [b]) })) ∧
    (∀ len covered lo, s.link.receiver = .receive (len :: covered ++ [lo]) → bad = false → covered.length = len.toNat →
      ([lo, b] ≠ bytes16 (crc16 (len :: covered)) →
        exec (.byteReceived b bad) s = .next (s.withLink { s.link with receiver := .hunt, badFrames := inc32 s.link.badFrames })) ∧
      (∀ ty body, covered = ty :: body → [lo, b] = bytes16 (crc16 (len :: covered)) →
        exec (.byteReceived b bad) s =
          .next (s.withLink { s.link with receiver := .process ty body, framesTaken := inc32 s.link.framesTaken }))) ∧
    (s.link.isBusy → s.link.burst = false →
      exec (.byteReceived b bad) s = .next (s.withLink { s.link with
        burst := true, overruns := inc32 s.link.overruns, flags := { s.link.flags with linkOverrun := true } })) ∧
    (s.link.isBusy → s.link.burst = true →
      exec (.byteReceived b bad) s = .next s) ∧
    (s.link.receiver = .discard → exec (.byteReceived b bad) s = .next s)) ∧
  ∀ s : State, s.mainRuns = true →
    (∀ cause, s.link.receiver = .hunt ∨ s.link.receiver = .receive [] → exec (.badFrame cause) s = .next (s.withLink { s.link with
      receiver := if cause = .badLength ∨ cause = .framingError then .discard else .hunt, badFrames := inc32 s.link.badFrames })) ∧
    (∀ cause len bytes, s.link.receiver = .receive (len :: bytes) →
      (cause ≠ .badLength → exec (.badFrame cause) s = .next (s.withLink { s.link with
        receiver := if cause = .framingError then .discard else .hunt, badFrames := inc32 s.link.badFrames })) ∧
      (cause = .badLength → exec (.badFrame cause) s = .next s)) ∧
    (∀ cause, s.link.isBusy ∨ s.link.receiver = .discard → exec (.badFrame cause) s = .next s) ∧
    (s.link.isBusy → s.link.burst = false → exec .linkOverrun s = .next (s.withLink { s.link with
      burst := true, overruns := inc32 s.link.overruns, flags := { s.link.flags with linkOverrun := true } })) ∧
    (¬s.link.isBusy ∨ s.link.burst = true → exec .linkOverrun s = .next s) ∧
    (s.link.receiver = .discard → exec .lineIdle s = .next (s.withLink { s.link with receiver := .hunt, burst := false })) ∧
    (∀ bytes, s.link.receiver = .receive bytes → exec .lineIdle s = .next (s.withLink { s.link with
      receiver := .hunt, burst := false, badFrames := inc32 s.link.badFrames })) ∧
    (s.link.isBusy ∨ s.link.receiver = .hunt → exec .lineIdle s = .next (s.withLink { s.link with burst := false })) ∧
    (∀ r, s.link.receiver = .send r → ¬(r.type = 0xE1#8 ∧ r.status = .ok) → exec .replySent s = .next (s.withLink { s.link with
      receiver := if s.link.burst then .discard else .hunt }))


/-! ### The requests LINK owns -/

/-- IDENTIFY answers with the last start, the start count and the events read number, and changes nothing (R180); a sound frame that LINK
refuses is answered UNKNOWN_REQUEST for a TYPE outside the catalogue, BAD_VALUE for a listed TYPE with another length (R173). -/
def Obligations.IdentifyAndUnknown : Prop :=
  (∀ s : State, s.canTake .identify = true →
      exec .identify s = .next (s.answered 0x01 .ok (.identification s.link.lastStart s.link.startCount s.link.eventsRead))) ∧
  ∀ (type : Byte) (length : Nat) (s : State), s.canTake (.unknownRequest type length) = true →
    exec (.unknownRequest type length) s =
      .next (s.answered type (if catalogued type then .badValue else .unknownRequest) .empty)


/-- READ EVENTS: CURRENT returns the flags under the next number, stores the copy and clears the flags; REPEAT returns the copy; any other
selector is refused (R183). -/
def Obligations.ReadEvents : Prop :=
  ∀ (sel : Byte) (s : State), s.canTake (.readEvents sel) = true →
    (sel = 0#8 → exec (.readEvents sel) s = .next (s.withLink { s.link.answered 0x02 .ok
        (.events ⟨s.link.eventsRead + 1, s.link.flags, s.link.mask⟩) with
      eventsRead := s.link.eventsRead + 1, copy := ⟨s.link.eventsRead + 1, s.link.flags, s.link.mask⟩, flags := .none })) ∧
    (sel = 1#8 → exec (.readEvents sel) s = .next (s.answered 0x02 .ok (.events s.link.copy))) ∧
    (1 < sel.toNat → exec (.readEvents sel) s = .next (s.answered 0x02 .badValue .empty))

/-- SET EVENT MASK: a mask with an unused bit is refused, any other replaces the mask, and ALERT follows the flags enabled (R182, R184). -/
def Obligations.SetEventMask : Prop :=
  ∀ (m : Word16) (s : State), s.canTake (.setEventMask m) = true →
    (m &&& 0xF000#16 ≠ 0 → exec (.setEventMask m) s = .next (s.answered 0x03 .badValue .empty)) ∧
    (m &&& 0xF000#16 = 0 → ∃ t, exec (.setEventMask m) s = .next t ∧
      t = s.withLink { s.link.answered 0x03 .ok (.mask m s.link.flags) with mask := m } ∧
      (t.alertLow = true ↔
        (s.link.flags.settled ≠ 0 ∧ m[0] = true) ∨ (s.link.flags.channelFault = true ∧ m[1] = true) ∨
          (s.link.flags.overspeed = true ∧ m[2] = true) ∨ (s.link.flags.nodeSilent = true ∧ m[3] = true) ∨
          (s.link.flags.nodeHalted = true ∧ m[4] = true) ∨ (s.link.flags.nodeTableFull = true ∧ m[5] = true) ∨
          (s.link.flags.sweepDone = true ∧ m[6] = true) ∨ (s.link.flags.cycleOverrun = true ∧ m[7] = true) ∨
          (s.link.flags.supplyBackup = true ∧ m[8] = true) ∨ (s.link.flags.supplyMain = true ∧ m[9] = true) ∨
          (s.link.flags.coldStart = true ∧ m[10] = true) ∨ (s.link.flags.linkOverrun = true ∧ m[11] = true)))

/-- READ COUNTERS returns a group's counters and clears its activity counters, the totals not (R185); the BUS group with the bus status record
(R123), whose remaining budget counts a free number of bit times up to the request, never fewer than counted before (the model's choice, log 6,
the free values being numbered by log 21). -/
def Obligations.ReadCounters : Prop :=
  ∀ (g : Byte) (s : State), s.canTake (.readCounters g) = true →
    (g = 0#8 → ∃ n, n = (if s.link.receiver = .hunt then inc32 s.link.framesTaken else s.link.framesTaken) ∧
      exec (.readCounters g) s = .next (s.withLink { s.link.answered 0x60 .ok
        (.linkCounters n s.link.refusals s.link.badFrames s.link.overruns s.link.noise) with framesTaken := 0, refusals := 0 })) ∧
    (g = 1#8 → ∃ t, exec (.readCounters g) s = .next t ∧
      t = (s.answered 0x60 .ok (.einCounters (s.channels.map fun c => c.counters))).withChannels t.channels ∧
      ∀ c : ChannelNo, t.channels[c] = { s.channels[c] with counters := .zero }) ∧
    (g = 2#8 → ∃ n, s.countsOn n ∧ exec (.readCounters g) s = .next
      ((((s.answered 0x60 .ok (.busCounters s.abm.counters s.abm.totals (s.busRecord n))).withAbm
        { s.abm with counters := ⟨0, 0, 0, 0, 0, 0⟩ }).counting n).withFreeUses (s.freeUses + 1))) ∧
    (g = 3#8 → exec (.readCounters g) s = .next
      ((s.answered 0x60 .ok (.attributionCounters s.atu.counters s.atu.orphan s.atu.discarded)).withAtu
        { s.atu with counters := .zero })) ∧
    (3 < g.toNat → exec (.readCounters g) s = .next (s.answered 0x60 .badValue .empty))

/-- FACTORY CLEAR is answered OK with nothing changed, and the end of its reply begins the cold start, whose end restores the marker and
sets COLD_START (R186, R196). That every block has its cold-start values from the beginning is the model's choice (log 14). -/
def Obligations.FactoryClear : Prop :=
  (∀ s : State, s.canTake .factoryClear = true → exec .factoryClear s = .next (s.answered 0x61 .ok .empty)) ∧
    (∀ s : State, s.mainRuns = true → s.link.receiver = .send ⟨0xE1#8, .ok, .empty⟩ →
      ∃ t, exec .replySent s = .next t ∧ t = { State.reset with
        link := Link.cold
        ssv := { s.ssv with markerValid := false, domain := .coldStart }
        freeUses := s.freeUses
        pending := s.pending }) ∧
    (∀ s : State, s.ssv.domain = .coldStart → exec .coldStartEnd s = .next
      ((s.withSsv { s.ssv with markerValid := true, domain := .running }).withLink
        { s.link with flags := { s.link.flags with coldStart := true } }))

/-! ### Accounts -/

/-- The checks common to the account requests and their reply (R2). -/
def Obligations.AccountRequestChecks : Prop :=
  (∀ (b : Byte) (s : State), s.canTake (.openAccount b) = true →
    (127 < b.toNat ∨ b = 0#8 → exec (.openAccount b) s = .next (s.answered 0x25 .badIndex .empty)) ∧
    (∀ a : AccountNo, accountOf b = some a → a ≠ 0 →
      (s.accounts[a] = .opened → exec (.openAccount b) s = .next (s.answered 0x25 .wrongState .empty)) ∧
      (s.accounts[a] ≠ .opened → s.ledgers[a].unbilled ≠ .zero →
        exec (.openAccount b) s = .next (s.answered 0x25 .uncollected .empty)) ∧
      (s.accounts[a] ≠ .opened → s.ledgers[a].unbilled = .zero →
        exec (.openAccount b) s = .next ((s.answered 0x25 .ok (.accountState a .opened)).withAccounts (s.accounts.set a .opened))))) ∧
  (∀ (b : Byte) (s : State), s.canTake (.vacateAccount b) = true →
    (127 < b.toNat ∨ b = 0#8 → exec (.vacateAccount b) s = .next (s.answered 0x26 .badIndex .empty)) ∧
    (∀ a : AccountNo, accountOf b = some a → a ≠ 0 →
      (s.accounts[a] ≠ .opened → exec (.vacateAccount b) s = .next (s.answered 0x26 .wrongState .empty)) ∧
      (s.accounts[a] = .opened →
        exec (.vacateAccount b) s = .next ((s.answered 0x26 .ok (.accountState a .vacant)).withAccounts (s.accounts.set a .vacant))))) ∧
  (∀ (b : Byte) (s : State), s.canTake (.freeAccount b) = true →
    (127 < b.toNat ∨ b = 0#8 → exec (.freeAccount b) s = .next (s.answered 0x27 .badIndex .empty)) ∧
    (∀ a : AccountNo, accountOf b = some a → a ≠ 0 →
      (s.accounts[a] ≠ .vacant → exec (.freeAccount b) s = .next (s.answered 0x27 .wrongState .empty)) ∧
      (s.accounts[a] = .vacant → (∃ z : ZoneNo, s.zones[z].hasMember a = true) →
        exec (.freeAccount b) s = .next (s.answered 0x27 .conflict .empty)) ∧
      (s.accounts[a] = .vacant → (∀ z : ZoneNo, s.zones[z].hasMember a = false) → s.ledgers[a].unbilled ≠ .zero →
        exec (.freeAccount b) s = .next (s.answered 0x27 .uncollected .empty)) ∧
      (s.accounts[a] = .vacant → (∀ z : ZoneNo, s.zones[z].hasMember a = false) → s.ledgers[a].unbilled = .zero →
        exec (.freeAccount b) s = .next ((s.answered 0x27 .ok (.accountState a .free)).withAccounts (s.accounts.set a .free)))))

/-! ### Zones, prices and SETTLE -/

/-- DEFINE ZONE (R8, R9): the checks in their order, an UNUSED zone opened empty, an OPEN zone redefined. -/
def Obligations.DefineZone : Prop :=
  ∀ (zb mb : Byte) (f : Word16) (xb : Byte) (s : State), s.canTake (.defineZone zb mb f xb) = true →
    (15 < zb.toNat → exec (.defineZone zb mb f xb) s = .next (s.answered 0x20 .badIndex .empty)) ∧
    ∀ z : ZoneNo, zb.toNat = z.val →
      ((1000 < f.toNat ∨ 1 < mb.toNat ∨ 1 < xb.toNat) → exec (.defineZone zb mb f xb) s = .next (s.answered 0x20 .badValue .empty)) ∧
      ∀ (m : Mode) (x : Bool), modeOf mb = some m → externalOf xb = some x → f.toNat ≤ 1000 →
        (s.zones[z].state = .armed ∨ s.zones[z].state = .queued ∨ s.zones[z].state = .settling →
          exec (.defineZone zb mb f xb) s = .next (s.answered 0x20 .busy .empty)) ∧
        (s.zones[z].state = .unused → exec (.defineZone zb mb f xb) s = .next
          ((s.answered 0x20 .ok (.zoneDefinition z .opened m f.toNat x)).withZones (s.zones.set z { s.zones[z] with
            state := .opened, mode := m, fixedShare := f.toNat, external := x, members := [], openU := .zero, closing := .zero,
            armed := .absent }))) ∧
        (s.zones[z].state = .opened → m ≠ s.zones[z].mode → (∃ c : ChannelNo, s.channels[c].zone = some z) →
          exec (.defineZone zb mb f xb) s = .next (s.answered 0x20 .wrongState .empty)) ∧
        (s.zones[z].state = .opened → (m = s.zones[z].mode ∨ ∀ c : ChannelNo, s.channels[c].zone ≠ some z) →
          exec (.defineZone zb mb f xb) s = .next
            ((s.answered 0x20 .ok (.zoneDefinition z .opened m f.toNat x)).withZones (s.zones.set z { s.zones[z] with
              mode := m, fixedShare := f.toNat, external := x })))

/-- DELETE ZONE (R8, R10): an empty OPEN zone without channels becomes UNUSED and keeps its other values; else the request is refused. -/
def Obligations.DeleteZone : Prop :=
  ∀ (zb : Byte) (s : State), s.canTake (.deleteZone zb) = true →
    (15 < zb.toNat → exec (.deleteZone zb) s = .next (s.answered 0x21 .badIndex .empty)) ∧
    ∀ z : ZoneNo, zb.toNat = z.val →
      (s.zones[z].state = .armed ∨ s.zones[z].state = .queued ∨ s.zones[z].state = .settling →
        exec (.deleteZone zb) s = .next (s.answered 0x21 .busy .empty)) ∧
      (s.zones[z].state = .unused ∨ (s.zones[z].state = .opened ∧
          ((∃ c : ChannelNo, s.channels[c].zone = some z) ∨ s.zones[z].members ≠ [] ∨ s.zones[z].openU ≠ ⟨0, false⟩)) →
        exec (.deleteZone zb) s = .next (s.answered 0x21 .wrongState .empty)) ∧
      (s.zones[z].state = .opened → (∀ c : ChannelNo, s.channels[c].zone ≠ some z) → s.zones[z].members = [] →
          s.zones[z].openU = ⟨0, false⟩ →
        exec (.deleteZone zb) s = .next
          ((s.answered 0x21 .ok (.zoneState z .unused)).withZones (s.zones.set z { s.zones[z] with state := .unused })))

/-- ADD MEMBER (R8, R11): the checks common to the zone requests, the request's own conditions in their order, and the member inserted with zero
weights, every other member kept. -/
def Obligations.AddMember : Prop :=
  (∀ (zb ab : Byte) (area : Word16) (s : State), s.canTake (.addMember zb ab area) = true →
    (15 < zb.toNat → exec (.addMember zb ab area) s = .next (s.answered 0x22 .badIndex .empty)) ∧
    ∀ z : ZoneNo, zb.toNat = z.val →
      (127 < ab.toNat ∨ area = 0 → exec (.addMember zb ab area) s = .next (s.answered 0x22 .badValue .empty)) ∧
      (ab.toNat ≤ 127 → area ≠ 0 →
        (s.zones[z].state = .unused → exec (.addMember zb ab area) s = .next (s.answered 0x22 .wrongState .empty)) ∧
        (s.zones[z].state = .armed ∨ s.zones[z].state = .queued ∨ s.zones[z].state = .settling →
          exec (.addMember zb ab area) s = .next (s.answered 0x22 .busy .empty)))) ∧
  ∀ (zb ab : Byte) (area : Word16) (z : ZoneNo) (a : AccountNo) (s : State), s.canTake (.addMember zb ab area) = true →
    zb.toNat = z.val → ab.toNat = a.val → area ≠ 0 → s.zones[z].state = .opened →
      (s.accounts[a] = .free ∨ a = 0 → exec (.addMember zb ab area) s = .next (s.answered 0x22 .wrongState .empty)) ∧
      (s.accounts[a] ≠ .free → a ≠ 0 → (∃ m ∈ s.zones[z].members, m.account = a) →
        exec (.addMember zb ab area) s = .next (s.answered 0x22 .conflict .empty)) ∧
      (s.accounts[a] ≠ .free → a ≠ 0 → (∀ m ∈ s.zones[z].members, m.account ≠ a) → 32 ≤ s.zones[z].members.length →
        exec (.addMember zb ab area) s = .next (s.answered 0x22 .full .empty)) ∧
      (s.accounts[a] ≠ .free → a ≠ 0 → (∀ m ∈ s.zones[z].members, m.account ≠ a) → s.zones[z].members.length < 32 →
        ∃ ms : List Member, exec (.addMember zb ab area) s = .next
            ((s.answered 0x22 .ok (.memberCount z a (s.zones[z].members.length + 1))).withZones
              (s.zones.set z { s.zones[z] with members := ms })) ∧
          ms.length = s.zones[z].members.length + 1 ∧
          ∀ m, m ∈ ms ↔ m = ⟨a, area.toNat, ⟨0, false⟩, ⟨0, false⟩⟩ ∨ m ∈ s.zones[z].members)

/-- REMOVE MEMBER (R8, R12): the checks common to the zone requests, and the member leaves the list and its open W joins the unattributed pool. -/
def Obligations.RemoveMember : Prop :=
  (∀ (zb ab : Byte) (s : State), s.canTake (.removeMember zb ab) = true →
    (15 < zb.toNat → exec (.removeMember zb ab) s = .next (s.answered 0x23 .badIndex .empty)) ∧
    ∀ z : ZoneNo, zb.toNat = z.val →
      (127 < ab.toNat → exec (.removeMember zb ab) s = .next (s.answered 0x23 .badValue .empty)) ∧
      (ab.toNat ≤ 127 →
        (s.zones[z].state = .unused → exec (.removeMember zb ab) s = .next (s.answered 0x23 .wrongState .empty)) ∧
        (s.zones[z].state = .armed ∨ s.zones[z].state = .queued ∨ s.zones[z].state = .settling →
          exec (.removeMember zb ab) s = .next (s.answered 0x23 .busy .empty)))) ∧
  ∀ (zb ab : Byte) (z : ZoneNo) (a : AccountNo) (s : State), s.canTake (.removeMember zb ab) = true →
    zb.toNat = z.val → ab.toNat = a.val → s.zones[z].state = .opened →
      ((∀ m ∈ s.zones[z].members, m.account ≠ a) → exec (.removeMember zb ab) s = .next (s.answered 0x23 .conflict .empty)) ∧
      (∀ (l r : List Member) (m : Member), s.zones[z].members = l ++ m :: r → m.account = a → (∀ x ∈ l ++ r, x.account ≠ a) →
        exec (.removeMember zb ab) s = .next
          ((s.answered 0x23 .ok (.memberCount z a (l ++ r).length)).withZones (s.zones.set z { s.zones[z] with
            members := l ++ r
            openU := ⟨min (s.zones[z].openU.value + m.openW.value) (2 ^ 48 - 1),
              s.zones[z].openU.saturated || m.openW.saturated ||
                decide (2 ^ 48 - 1 < s.zones[z].openU.value + m.openW.value)⟩ })))

/-- READ ZONE, SET PRICES and SET BAND (R14, R20, R21): what they change and answer, and what they refuse. -/
def Obligations.ZoneReadsPricesBand : Prop :=
  (∀ (zb fb : Byte) (s : State), s.canTake (.readZone zb fb) = true →
    (15 < zb.toNat → exec (.readZone zb fb) s = .next (s.answered 0x24 .badIndex .empty)) ∧
    (∀ z : ZoneNo, zb.toNat = z.val → 31 < fb.toNat → exec (.readZone zb fb) s = .next (s.answered 0x24 .badValue .empty)) ∧
    (∀ z : ZoneNo, zb.toNat = z.val → fb.toNat ≤ 31 → ∃ r : ZoneReply, exec (.readZone zb fb) s = .next (s.answered 0x24 .ok (.zoneRecord r)) ∧
      r.state = s.zones[z].state ∧ r.mode = s.zones[z].mode ∧ r.fixedShare = s.zones[z].fixedShare ∧ r.external = s.zones[z].external ∧
      (∀ c : ChannelNo, c ∈ r.channels ↔ s.channels[c].zone = some z) ∧ r.armed = s.zones[z].armed ∧
      r.lastCause = s.zones[z].lastCause ∧ r.cycleAtClose = s.zones[z].cycleAtClose ∧ r.number = s.zones[z].number ∧
      r.openU = s.zones[z].openU ∧ r.closingU = s.zones[z].closing.u ∧ r.memberCount = s.zones[z].members.length ∧
      r.band = s.band ∧ r.prices = s.prices.get s.zones[z].mode ∧ r.members = (s.zones[z].members.drop fb.toNat).take 12)) ∧
  (∀ (mb : Byte) (p0 p1 p2 p3 : Word16) (s : State), s.canTake (.setPrices mb p0 p1 p2 p3) = true →
    (1 < mb.toNat → exec (.setPrices mb p0 p1 p2 p3) s = .next (s.answered 0x28 .badValue .empty)) ∧
    (mb = 0#8 → exec (.setPrices mb p0 p1 p2 p3) s = .next
      ((s.answered 0x28 .ok (.prices ⟨#v[p0.toNat, p1.toNat, p2.toNat, p3.toNat], s.prices.cooling⟩)).withPrices
        ⟨#v[p0.toNat, p1.toNat, p2.toNat, p3.toNat], s.prices.cooling⟩)) ∧
    (mb = 1#8 → exec (.setPrices mb p0 p1 p2 p3) s = .next
      ((s.answered 0x28 .ok (.prices ⟨s.prices.heating, #v[p0.toNat, p1.toNat, p2.toNat, p3.toNat]⟩)).withPrices
        ⟨s.prices.heating, #v[p0.toNat, p1.toNat, p2.toNat, p3.toNat]⟩))) ∧
  (∀ (bb : Byte) (s : State), s.canTake (.setBand bb) = true →
    (3 < bb.toNat → exec (.setBand bb) s = .next (s.answered 0x29 .badValue .empty)) ∧
    (∀ b : BandNo, bb.toNat = b.val → exec (.setBand bb) s = .next ((s.answered 0x29 .ok (.band b)).withBand b)))

/-- SETTLE with one entry (R15, R16, R18): each condition in its order, the close of an IMMEDIATE entry and the arming of an AT_CYCLE_END one. -/
def Obligations.SettleOneEntry : Prop :=
  ∀ (e : SettleEntry) (terms : CloseTerms) (s : State), s.canTake (.settle (.entries [e])) = true → givesTerms e terms →
    (15 < e.zone.toNat → exec (.settle (.entries [e])) s = .next (s.answered 0x50 .ok (.entryStatuses [.badIndex]))) ∧
    ∀ z : ZoneNo, e.zone.toNat = z.val →
      (1 < e.timing.toNat → exec (.settle (.entries [e])) s = .next (s.answered 0x50 .ok (.entryStatuses [.badValue]))) ∧
      (e.timing.toNat ≤ 1 → s.zones[z].state = .unused →
        exec (.settle (.entries [e])) s = .next (s.answered 0x50 .ok (.entryStatuses [.wrongState]))) ∧
      (e.timing.toNat ≤ 1 → (s.zones[z].state = .armed ∨ s.zones[z].state = .queued ∨ s.zones[z].state = .settling) →
        exec (.settle (.entries [e])) s = .next (s.answered 0x50 .ok (.entryStatuses [.busy]))) ∧
      (e.timing.toNat ≤ 1 → s.zones[z].state = .opened → e.energies.isSome ≠ s.zones[z].external →
        exec (.settle (.entries [e])) s = .next (s.answered 0x50 .ok (.entryStatuses [.badValue]))) ∧
      (e.timing = 1#8 → s.zones[z].state = .opened → e.energies.isSome = s.zones[z].external → s.abm.bus = .off →
        exec (.settle (.entries [e])) s = .next (s.answered 0x50 .ok (.entryStatuses [.noCycle]))) ∧
      (e.timing = 1#8 → s.zones[z].state = .opened → e.energies.isSome = s.zones[z].external → s.abm.bus ≠ .off →
        exec (.settle (.entries [e])) s = .next ((s.answered 0x50 .ok (.entryStatuses [.ok])).withZones
          (s.zones.set z { s.zones[z] with state := .armed, armed := terms }))) ∧
      (e.timing = 0#8 → s.zones[z].state = .opened → e.energies.isSome = s.zones[z].external →
        ∃ t, exec (.settle (.entries [e])) s = .next t ∧
          t = (((s.answered 0x50 .ok (.entryStatuses [.ok])).withZones t.zones).withChannels t.channels).withQueue (s.queue ++ [z]) ∧
          (∀ y : ZoneNo, y ≠ z → t.zones[y] = s.zones[y]) ∧
          t.zones[z] = { s.zones[z] with
            state := .queued
            members := s.zones[z].members.map fun m => { m with openW := ⟨0, false⟩, closingW := m.openW }
            openU := ⟨0, false⟩
            closing := ⟨s.zones[z].openU, terms, s.zones[z].number + 1, .immediate, s.abm.cycleNumber⟩
            armed := .absent
            lastCause := .immediate
            cycleAtClose := s.abm.cycleNumber
            number := s.zones[z].number + 1 } ∧
          ∀ c : ChannelNo, t.channels[c] =
            if s.channels[c].zone = some z then { s.channels[c] with opn := .zero, closing := s.channels[c].opn } else s.channels[c])

/-- SETTLE as a whole (R15, R179): a body without a layout, with no entry or with more than 16 is refused; the entries of an accepted one are
taken in order, each whole before the next. -/
def Obligations.SettleInOrder : Prop :=
  (∀ (n : Nat) (s : State), s.canTake (.settle (.malformed n)) = true →
    exec (.settle (.malformed n)) s = .next (s.answered 0x50 .badValue .empty)) ∧
  (∀ (es : List SettleEntry) (s : State), s.canTake (.settle (.entries es)) = true → (es = [] ∨ 16 < es.length) →
    exec (.settle (.entries es)) s = .next (s.answered 0x50 .badValue .empty)) ∧
  (∀ (e : SettleEntry) (es : List SettleEntry) (s : State), s.link.receiver = .hunt → s.canTake (.settle (.entries (e :: es))) = true →
    es ≠ [] → es.length < 16 →
    ∃ (t u v : State) (st : Status) (sts : List Status),
      exec (.settle (.entries [e])) s = .next t ∧ t.link = s.link.answered 0x50 .ok (.entryStatuses [st]) ∧
      exec (.settle (.entries es)) (t.withLink s.link) = .next u ∧ u.link = s.link.answered 0x50 .ok (.entryStatuses sts) ∧
      exec (.settle (.entries (e :: es))) s = .next v ∧ v.link = s.link.answered 0x50 .ok (.entryStatuses (st :: sts)) ∧
      v = u.withLink v.link)

/-! ### Heat meter channels -/

/-- CONFIGURE CHANNEL (R62 to R64): the checks in their order, and the ten fields written into the channel and its input, all else kept. -/
def Obligations.ConfigureChannel : Prop :=
  ∀ (cb mb zb : Byte) (v k d f p n : Word16) (fb eb : Byte) (s : State),
    s.canTake (.configureChannel cb mb zb v k d f p n fb eb) = true →
    (7 < cb.toNat → exec (.configureChannel cb mb zb v k d f p n fb eb) s = .next (s.answered 0x10 .badIndex .empty)) ∧
    ∀ c : ChannelNo, cb.toNat = c.val →
      ((1 < mb.toNat ∨ (15 < zb.toNat ∧ zb ≠ 0xFF#8) ∨ v = 0#16 ∨ 500 < d.toNat ∨ 5000 < f.toNat ∨ n = 0#16 ∨ 3600 < n.toNat ∨
          (fb ≠ 1#8 ∧ fb ≠ 2#8 ∧ fb ≠ 8#8 ∧ fb ≠ 32#8) ∨ 2 < eb.toNat) →
        exec (.configureChannel cb mb zb v k d f p n fb eb) s = .next (s.answered 0x10 .badValue .empty)) ∧
      ∀ (m : Mode) (z : Option ZoneNo) (e : Edge), modeOf mb = some m → optionalZoneOf zb = some z → edgeOf eb = some e →
        v ≠ 0#16 → d.toNat ≤ 500 → f.toNat ≤ 5000 → n ≠ 0#16 → n.toNat ≤ 3600 → (fb = 1#8 ∨ fb = 2#8 ∨ fb = 8#8 ∨ fb = 32#8) →
        ((s.channels[c].state ≠ .disabled ∨ s.channels[c].opn ≠ .zero ∨ s.channels[c].closing ≠ .zero) →
          exec (.configureChannel cb mb zb v k d f p n fb eb) s = .next (s.answered 0x10 .wrongState .empty)) ∧
        (s.channels[c].state = .disabled → s.channels[c].opn = .zero → s.channels[c].closing = .zero →
          (∀ y, z = some y → s.zones[y].state = .unused →
            exec (.configureChannel cb mb zb v k d f p n fb eb) s = .next (s.answered 0x10 .wrongState .empty)) ∧
          (∀ y, z = some y → (s.zones[y].state = .armed ∨ s.zones[y].state = .queued ∨ s.zones[y].state = .settling) →
            exec (.configureChannel cb mb zb v k d f p n fb eb) s = .next (s.answered 0x10 .busy .empty)) ∧
          (∀ y, z = some y → s.zones[y].state = .opened → s.zones[y].mode ≠ m →
            exec (.configureChannel cb mb zb v k d f p n fb eb) s = .next (s.answered 0x10 .conflict .empty)) ∧
          ((∀ y, z = some y → s.zones[y].state = .opened ∧ s.zones[y].mode = m) →
            exec (.configureChannel cb mb zb v k d f p n fb eb) s = .next (((s.answered 0x10 .ok (.configuration c
              ⟨m, z, v.toNat, k.toNat, d.toNat, f.toNat, p.toNat, n.toNat, fb.toNat, e⟩)).withChannels
              (s.channels.set c { s.channels[c] with
                mode := m, zone := z, pulseValue := v.toNat, k := k.toNat, minDT := d.toNat, fallbackDT := f.toNat })).withInputs
              (s.inputs.set c { s.inputs[c] with
                filter := fb.toNat, edge := e, minPeriod := p.toNat, noFlowLimit := n.toNat }))))

/-- START, PAUSE, RESUME and STOP CHANNEL (R66 to R70, R98, R99, R106 to R108): their refusals, what they do to the channel, its input (a STOP
drops the pulse in its handover, whose capture stands) and the converter's round, and nothing else. That an emptied scan set makes the converter idle at once is the model's reading (log 18), and the
mark of a pulse since START is the model's own (log 19). -/
def Obligations.ChannelStateRequests : Prop :=
  ∀ (cb : Byte) (s : State),
    (s.canTake (.startChannel cb) = true →
      (7 < cb.toNat → exec (.startChannel cb) s = .next (s.answered 0x11 .badIndex .empty)) ∧
      ∀ c : ChannelNo, cb.toNat = c.val →
        (s.channels[c].state ≠ .disabled ∨ s.channels[c].zone = none →
          exec (.startChannel cb) s = .next (s.answered 0x11 .wrongState .empty)) ∧
        (s.channels[c].state = .disabled → s.channels[c].zone ≠ none →
          ∃ t, exec (.startChannel cb) s = .next t ∧
            t = (((s.answered 0x11 .ok (.channelState c .running)).withChannels (s.channels.set c { s.channels[c] with
                state := .running, status := .normal, holdCount := 0, carry := 0
                flow := ⟨s.channels[c].flow.value, false⟩, ret := ⟨s.channels[c].ret.value, false⟩ })).withInputs
              (s.inputs.set c { s.inputs[c] with
                running := true, accepted := none, candidate := none, stability := 0, counter := 0, lastPeriod := 0, known := false
                noFlow := false, pulsed := false })).withTcv t.tcv ∧
            (s.tcv.round ≠ none → t.tcv = s.tcv) ∧
            (∀ scan, s.tcv.round = none → isScanSet t scan → t.tcv = { s.tcv with
              roundNumber := s.tcv.roundNumber + 1, round := some ⟨.reference, scan, s.tcv.gateLength, none, false, none⟩ }))) ∧
    (s.canTake (.pauseChannel cb) = true →
      (7 < cb.toNat → exec (.pauseChannel cb) s = .next (s.answered 0x12 .badIndex .empty)) ∧
      ∀ c : ChannelNo, cb.toNat = c.val →
        (s.channels[c].state = .disabled ∨ s.channels[c].state = .paused →
          exec (.pauseChannel cb) s = .next (s.answered 0x12 .wrongState .empty)) ∧
        (s.channels[c].state = .running ∨ s.channels[c].state = .hold ∨ s.channels[c].state = .substitute →
          exec (.pauseChannel cb) s = .next ((s.answered 0x12 .ok (.channelState c .paused)).withChannels
            (s.channels.set c { s.channels[c] with state := .paused })))) ∧
    (s.canTake (.resumeChannel cb) = true →
      (7 < cb.toNat → exec (.resumeChannel cb) s = .next (s.answered 0x13 .badIndex .empty)) ∧
      ∀ c : ChannelNo, cb.toNat = c.val →
        (s.channels[c].state ≠ .paused → exec (.resumeChannel cb) s = .next (s.answered 0x13 .wrongState .empty)) ∧
        (s.channels[c].state = .paused → ∃ x : ChannelState,
          exec (.resumeChannel cb) s = .next ((s.answered 0x13 .ok (.channelState c x)).withChannels
            (s.channels.set c { s.channels[c] with state := x })) ∧
          (s.channels[c].status = .normal → x = .running) ∧ (s.channels[c].status = .hold → x = .hold) ∧
          (s.channels[c].status = .substitute → x = .substitute))) ∧
    (s.canTake (.stopChannel cb) = true →
      (7 < cb.toNat → exec (.stopChannel cb) s = .next (s.answered 0x14 .badIndex .empty)) ∧
      ∀ c : ChannelNo, cb.toNat = c.val →
        (s.channels[c].state = .disabled → exec (.stopChannel cb) s = .next (s.answered 0x14 .ok (.channelState c .disabled))) ∧
        (s.channels[c].state ≠ .disabled → ∃ t, exec (.stopChannel cb) s = .next t ∧
          t = (((s.answered 0x14 .ok (.channelState c .disabled)).withChannels (s.channels.set c { s.channels[c] with
              state := .disabled })).withInputs (s.inputs.set c { s.inputs[c] with running := false, handover := none })).withTcv t.tcv ∧
          (s.tcv.round = none → t.tcv = s.tcv) ∧
          ((∀ x : ChannelNo, x ≠ c → s.channels[x].state = .disabled) → t.tcv = { s.tcv with round := none }) ∧
          ∀ (r : Round) (kept : List SensorNo) (x : ChannelNo), s.tcv.round = some r → x ≠ c → s.channels[x].state ≠ .disabled →
            kept = r.rest.filter (fun n => sensorChannel n != c) →
            ((∀ n, r.gate = .sensor n → sensorChannel n ≠ c) → t.tcv = { s.tcv with round := some { r with rest := kept } }) ∧
            (∀ n m ms, r.gate = .sensor n → sensorChannel n = c → kept = m :: ms →
              t.tcv = { s.tcv with round := some { r with gate := .sensor m, rest := ms, flow := none } }) ∧
            (∀ n scan, r.gate = .sensor n → sensorChannel n = c → kept = [] → isScanSet t scan → t.tcv = { s.tcv with
              roundNumber := s.tcv.roundNumber + 1
              round := some ⟨.reference, scan, s.tcv.gateLength, none, false, none⟩ })))

/-- READ CHANNEL changes nothing, and its record holds the channel's and the input's items and the flow rate in L/h (R84, R95). -/
def Obligations.ReadChannel : Prop :=
  ∀ (cb : Byte) (s : State), s.canTake (.readChannel cb) = true →
    (7 < cb.toNat → exec (.readChannel cb) s = .next (s.answered 0x15 .badIndex .empty)) ∧
    ∀ c : ChannelNo, cb.toNat = c.val → ∃ r : ChannelRecord,
      exec (.readChannel cb) s = .next (s.answered 0x15 .ok (.channelRecord r)) ∧
      r.config = ⟨s.channels[c].mode, s.channels[c].zone, s.channels[c].pulseValue, s.channels[c].k, s.channels[c].minDT,
        s.channels[c].fallbackDT, s.inputs[c].minPeriod, s.inputs[c].noFlowLimit, s.inputs[c].filter, s.inputs[c].edge⟩ ∧
      r.state = s.channels[c].state ∧ r.status = s.channels[c].status ∧ r.holdCount = s.channels[c].holdCount ∧
      r.flow = s.channels[c].flow ∧ r.ret = s.channels[c].ret ∧ r.carry = s.channels[c].carry ∧
      r.opn = s.channels[c].opn ∧ r.closing = s.channels[c].closing ∧ r.volume = s.channels[c].volume ∧
      r.energy = s.channels[c].energy ∧ r.estimated = s.channels[c].estimated ∧ r.pausedVolume = s.channels[c].pausedVolume ∧
      r.lastPeriod = s.inputs[c].lastPeriod ∧ r.known = s.inputs[c].known ∧ r.noFlow = s.inputs[c].noFlow ∧
      (s.inputs[c].known = true → s.inputs[c].noFlow = false →
        r.flowRate = s.channels[c].pulseValue * 18432 / (5 * s.inputs[c].lastPeriod)) ∧
      (s.inputs[c].known = false ∨ s.inputs[c].noFlow = true → r.flowRate = 0)

/-! ### The temperature converter -/

/-- CONFIGURE CONVERTER, SET CALIBRATION and READ SENSOR (R104, R105, R116). -/
def Obligations.ConverterRequests : Prop :=
  (∀ (g : Word16) (h : Byte) (s : State), s.canTake (.configureConverter g h) = true →
    (g ≠ 1024#16 → g ≠ 2048#16 → g ≠ 4096#16 → g ≠ 8192#16 →
      exec (.configureConverter g h) s = .next (s.answered 0x16 .badValue .empty)) ∧
    (g = 1024#16 ∨ g = 2048#16 ∨ g = 4096#16 ∨ g = 8192#16 →
      exec (.configureConverter g h) s = .next ((s.answered 0x16 .ok
        (.converter g.toNat h.toNat (s.tcv.round.map (·.gateLength)))).withTcv
        { s.tcv with gateLength := g.toNat, holdLimit := h.toNat }))) ∧
  (∀ (nb : Byte) (a : Word16) (b : BitVec 32) (s : State), s.canTake (.setCalibration nb a b) = true →
    (15 < nb.toNat → exec (.setCalibration nb a b) s = .next (s.answered 0x17 .badIndex .empty)) ∧
    ∀ n : SensorNo, nb.toNat = n.val →
      ((b.toInt < -65536 ∨ 65535 < b.toInt) → exec (.setCalibration nb a b) s = .next (s.answered 0x17 .badValue .empty)) ∧
      (-65536 ≤ b.toInt → b.toInt ≤ 65535 →
        exec (.setCalibration nb a b) s = .next ((s.answered 0x17 .ok (.calibration n ⟨a.toNat, b.toInt⟩)).withTcv
          { s.tcv with calibration := s.tcv.calibration.set n ⟨a.toNat, b.toInt⟩ }))) ∧
  (∀ (nb : Byte) (s : State), s.canTake (.readSensor nb) = true →
    (15 < nb.toNat → exec (.readSensor nb) s = .next (s.answered 0x18 .badIndex .empty)) ∧
    ∀ n : SensorNo, nb.toNat = n.val → ∃ r : SensorReply, exec (.readSensor nb) s = .next (s.answered 0x18 .ok (.sensorRecord r)) ∧
      r.sensor = n ∧ r.channel.val = n.val / 2 ∧ (r.isReturn = true ↔ n.val % 2 = 1) ∧
      (r.scanned = true ↔ s.channels[r.channel].state ≠ .disabled) ∧ r.calibration = s.tcv.calibration[n] ∧ r.last = s.tcv.last[n] ∧
      r.phase = s.tcv.round.map (·.gate) ∧ r.roundNumber = s.tcv.roundNumber ∧ r.inForce = s.tcv.round.map (·.gateLength) ∧
      r.gateLength = s.tcv.gateLength ∧ r.holdLimit = s.tcv.holdLimit)

/-- The end of the reference gate, with a count or by overflow, keeps the count or the fault for the round and begins the next sensor's gate
(R107, R110); with no sensor left, the next round begins at once, or the converter idles (R106, by the model's reading, log 18). -/
def Obligations.ReferenceGate : Prop :=
  ∀ (i : Instr) (count : Option Nat) (s : State) (r : Round),
    (∃ n : BitVec 24, i = .referenceGate n ∧ count = some n.toNat) ∨ (i = .gateOverflow ∧ count = none) →
    s.mainRuns = true → s.tcv.round = some r → r.gate = .reference →
    (∀ m ms fault, r.rest = m :: ms → (fault = true ↔ ∀ n, count = some n → n < 1000) →
      exec i s = .next (s.withTcv { s.tcv with round := some { r with gate := .sensor m, rest := ms, tref := count, refFault := fault } })) ∧
    (r.rest = [] → (∀ c : ChannelNo, s.channels[c].state = .disabled) → exec i s = .next (s.withTcv { s.tcv with round := none })) ∧
    (∀ scan, r.rest = [] → (∃ c : ChannelNo, s.channels[c].state ≠ .disabled) → isScanSet s scan → exec i s = .next (s.withTcv { s.tcv with
      roundNumber := s.tcv.roundNumber + 1, round := some ⟨.reference, scan, s.tcv.gateLength, none, false, none⟩ }))

/-- The end of a sensor gate, with a count or by overflow (R111, R113, R114): the record is written, a flow result waits for its return
sensor, a return result makes the channel's pair, and the next gate or round begins. -/
def Obligations.SensorGate : Prop :=
  ∀ (i : Instr) (ts : Option Nat) (s : State) (r : Round) (n : SensorNo) (res : SensorResult) (old new : SensorRecord),
    (∃ k : BitVec 24, i = .gateComplete k ∧ ts = some k.toNat) ∨ (i = .gateOverflow ∧ ts = none) →
    s.mainRuns = true → s.tcv.round = some r → r.gate = .sensor n → res = classify s.tcv.calibration[n] r ts → old = s.tcv.last[n] →
    (∀ x cl, res = .valid x cl → new = ⟨.valid, cl, some x, ts, r.tref, s.tcv.roundNumber, old.tally⟩) →
    (∀ ft, res = .fault ft → new.status = ft.status ∧ new.clamped = false ∧ new.temperature = none ∧ new.ts = ts ∧ new.tref = r.tref ∧
      new.round = s.tcv.roundNumber ∧ new.tally = min (old.tally + 1) 65535) →
    (n.val % 2 = 0 → exec i s = .next ((s.withTcv { s.tcv with last := s.tcv.last.set n new }).nextGate { r with flow := some res })) ∧
    (∀ f, n.val % 2 = 1 → r.flow = some f →
      exec i s = .next (((s.withTcv { s.tcv with last := s.tcv.last.set n new }).takePair (sensorChannel n) f res).nextGate
        { r with flow := none }))

/-- What a sensor gate's end finds, by the first case that holds (R111), and the conversion of a valid count (R112). -/
def Obligations.Classification : Prop :=
  ∀ (cal : Calibration) (r : Round) (ts : Option Nat),
    (r.refFault = true → classify cal r ts = .fault .reference) ∧
    (r.refFault = false → ts = none → classify cal r ts = .fault .openCircuit) ∧
    ∀ t ref : Nat, r.refFault = false → ts = some t → r.tref = some ref → 0 < ref →
      (2 * ref < t → classify cal r ts = .fault .openCircuit) ∧
      (2 * t < ref → classify cal r ts = .fault .short) ∧
      (t ≤ 2 * ref → ref ≤ 2 * t → ∃ q rem ratio : Nat, cal.a * t = q * ref + rem ∧ rem < ref ∧
        (2 * rem < ref → ratio = q) ∧ (ref ≤ 2 * rem → ratio = q + 1) ∧ (cal.a ≤ 65535 → ratio ≤ 131070) ∧
        ((ratio : Int) + cal.b < -5000 → classify cal r ts = .valid (-5000) true) ∧
        (15000 < (ratio : Int) + cal.b → classify cal r ts = .valid 15000 true) ∧
        (-5000 ≤ (ratio : Int) + cal.b → (ratio : Int) + cal.b ≤ 15000 → classify cal r ts = .valid (ratio + cal.b) false))

/-- The EIN takes a result pair (R65, R70 to R73): held temperatures, status table, channel state, CHANNEL_FAULT and the clamped counter. -/
def Obligations.ResultPair : Prop :=
  ∀ (s : State) (c : ChannelNo) (f r : SensorResult),
    (s.channels[c].state = .disabled → s.takePair c f r = s) ∧
    (s.channels[c].state ≠ .disabled → ∃ (st : SensorStatus) (n : Nat) (fault : Bool) (x : ChannelState) (hf hr : Held),
      s.takePair c f r = (s.withChannels (s.channels.set c { s.channels[c] with
        flow := hf, ret := hr, status := st, holdCount := n, state := x
        counters := { s.channels[c].counters with
          clamped := countClamped r (countClamped f s.channels[c].counters.clamped) } })).withLink
        { s.link with flags := { s.link.flags with channelFault := s.link.flags.channelFault || fault } } ∧
      (∀ y cl, f = .valid y cl → hf = ⟨y, true⟩) ∧ (∀ ft, f = .fault ft → hf = s.channels[c].flow) ∧
      (∀ y cl, r = .valid y cl → hr = ⟨y, true⟩) ∧ (∀ ft, r = .fault ft → hr = s.channels[c].ret) ∧
      (f.isValid = true → r.isValid = true → st = .normal ∧ n = 0 ∧ fault = false) ∧
      ((f.isValid = false ∨ r.isValid = false) →
        (s.channels[c].status = .normal → 0 < s.tcv.holdLimit → st = .hold ∧ n = 0 ∧ fault = true) ∧
        (s.channels[c].status = .normal → s.tcv.holdLimit = 0 → st = .substitute ∧ n = 0 ∧ fault = true) ∧
        (s.channels[c].status = .hold → s.channels[c].holdCount + 1 ≤ s.tcv.holdLimit →
          st = .hold ∧ n = s.channels[c].holdCount + 1 ∧ fault = false) ∧
        (s.channels[c].status = .hold → s.tcv.holdLimit < s.channels[c].holdCount + 1 →
          st = .substitute ∧ n = s.channels[c].holdCount + 1 ∧ fault = true) ∧
        (s.channels[c].status = .substitute → st = .substitute ∧ n = s.channels[c].holdCount ∧ fault = false)) ∧
      (s.channels[c].state = .paused → x = .paused) ∧
      (s.channels[c].state ≠ .paused → (st = .normal → x = .running) ∧ (st = .hold → x = .hold) ∧ (st = .substitute → x = .substitute))) ∧
    (∀ y k, countClamped (.valid y true) k = min (k + 1) (2 ^ 32 - 1) ∧ countClamped (.valid y false) k = k) ∧
    ∀ ft k, countClamped (.fault ft) k = k

/-! ### Pulse inputs and energy -/

/-- One tick of a running input (R89 to R97): the counter and the no-flow comparison, the hold filter, and a pulse with its period, marks and
handover; it reaches no STOPPED input (R87, R100). That it reaches no input while the backup domain is unpowered, until a qualification has
completed, is the model's choice (log 31). The EIN takes the pulse at once, or finds it later in the handover, before the input's next
tick, as the sample says (R70, R92; the model's choice, log 4). The mark of a pulse since START is the model's own (log 19). -/
def Obligations.Tick : Prop :=
  ∀ (c : ChannelNo) (x : Level) (now : Bool) (s : State) (i : Input) (n k : Nat), i = s.inputs[c] →
    (i.running = false ∨ s.ssv.powered = false → exec (.tick c ⟨x, now⟩) s = .next s) ∧
    (∀ p, i.running = true → s.ssv.powered = true → i.handover = some p →
      exec (.tick c ⟨x, now⟩) s = exec (.tick c ⟨x, now⟩) ((s.withInputs (s.inputs.set c { i with handover := none })).takePulse c p)) ∧
    (i.running = true → s.ssv.powered = true → i.handover = none → n = min (i.counter + 1) 16777215 →
      k = (if i.candidate = some x then i.stability + 1 else 1) →
      (i.accepted = some x → exec (.tick c ⟨x, now⟩) s = .next (s.withInputs (s.inputs.set c { i with
        counter := n, noFlow := i.noFlow || n == i.noFlowLimit * 1024, candidate := none, stability := 0 }))) ∧
      (i.accepted ≠ some x → k < 2 * i.filter → exec (.tick c ⟨x, now⟩) s = .next (s.withInputs (s.inputs.set c { i with
        counter := n, noFlow := i.noFlow || n == i.noFlowLimit * 1024, candidate := some x, stability := k }))) ∧
      (i.accepted ≠ some x → 2 * i.filter ≤ k →
        (i.accepted = none ∨ (i.edge = .rising ∧ x = .low) ∨ (i.edge = .falling ∧ x = .high)) →
        exec (.tick c ⟨x, now⟩) s = .next (s.withInputs (s.inputs.set c { i with
          counter := n, noFlow := i.noFlow || n == i.noFlowLimit * 1024, accepted := some x, candidate := none, stability := 0 }))) ∧
      (∀ j : Input, i.accepted ≠ some x → 2 * i.filter ≤ k → i.accepted ≠ none →
        (i.edge = .both ∨ (i.edge = .rising ∧ x = .high) ∨ (i.edge = .falling ∧ x = .low)) →
        j = { i with
          counter := 0, lastPeriod := n, known := i.pulsed, noFlow := false, pulsed := true
          accepted := some x, candidate := none, stability := 0 } →
        (now = true → exec (.tick c ⟨x, now⟩) s =
          .next ((s.withInputs (s.inputs.set c j)).takePulse c ⟨n, i.pulsed, i.pulsed && decide (n < i.minPeriod)⟩)) ∧
        (now = false → exec (.tick c ⟨x, now⟩) s = .next (s.withInputs (s.inputs.set c { j with
          handover := some ⟨n, i.pulsed, i.pulsed && decide (n < i.minPeriod)⟩ })))))

/-- ACCEPTED_CHANGE, INPUT_SETTLING and NO_FLOW are the ticks at which the change, the settling or the limit comes about (R89, R90, R97; the
model's choice, log 4). -/
def Obligations.TickEvents : Prop :=
  ∀ (c : ChannelNo) (x : Level) (s : State), s.inputs[c].running = true → s.ssv.powered = true →
    (∀ l, s.inputs[c].candidate = some x → s.inputs[c].accepted = some l → l ≠ x → 2 * s.inputs[c].filter ≤ s.inputs[c].stability + 1 →
      ∃ t, exec (.acceptedChange c) s = .next t ∧ exec (.tick c ⟨x, true⟩) s = .next t ∧ t.inputs[c].accepted = some x) ∧
    (s.inputs[c].candidate = some x → s.inputs[c].accepted = none → 2 * s.inputs[c].filter ≤ s.inputs[c].stability + 1 →
      ∃ t, exec (.inputSettling c) s = .next t ∧ exec (.tick c ⟨x, true⟩) s = .next t ∧ t.inputs[c].accepted = some x) ∧
    (min (s.inputs[c].counter + 1) 16777215 = s.inputs[c].noFlowLimit * 1024 → s.inputs[c].accepted = some x →
      ∀ now, ∃ t, exec (.noFlow c ⟨x, now⟩) s = .next t ∧ exec (.tick c ⟨x, now⟩) s = .next t ∧ t.inputs[c].noFlow = true)

/-- The EIN takes a pulse (R74, R75, R76, R80): what each channel state and the held temperatures make of it, and OVERSPEED. -/
def Obligations.PulseTaken : Prop :=
  ∀ (s : State) (c : ChannelNo) (p : Pulse) (ch m : Channel) (fl : EventFlags), ch = s.channels[c] →
    fl = { s.link.flags with overspeed := s.link.flags.overspeed || p.overspeed } →
    m = { ch with
      volume := min (ch.volume + ch.pulseValue) (2 ^ 48 - 1)
      counters := { ch.counters with
        pulses := min (ch.counters.pulses + 1) (2 ^ 32 - 1)
        overspeed := if p.overspeed then min (ch.counters.overspeed + 1) (2 ^ 32 - 1) else ch.counters.overspeed } } →
    (ch.state = .disabled → s.takePulse c p = s) ∧
    (ch.state = .paused → s.takePulse c p = (s.withChannels (s.channels.set c
      { m with pausedVolume := min (ch.pausedVolume + ch.pulseValue) (2 ^ 48 - 1) })).withLink { s.link with flags := fl }) ∧
    (ch.state = .running ∨ ch.state = .hold → ch.flow.set = false ∨ ch.ret.set = false → s.takePulse c p =
      (s.withChannels (s.channels.set c { m with counters := { m.counters with
        beforeTemp := min (ch.counters.beforeTemp + 1) (2 ^ 32 - 1) } })).withLink { s.link with flags := fl }) ∧
    (ch.state = .substitute → s.takePulse c p =
      (s.withChannels (s.channels.set c (m.integrate s.band true ch.fallbackDT))).withLink { s.link with flags := fl }) ∧
    (∀ d : Int, ch.state = .running ∨ ch.state = .hold → ch.flow.set = true → ch.ret.set = true →
      d = (if ch.mode = .heating then ch.flow.value - ch.ret.value else ch.ret.value - ch.flow.value) →
      s.takePulse c p = (s.withChannels (s.channels.set c (Channel.integrate s.band (decide (s.ssv.supply = .backup))
        (if d < ch.minDT then 0 else d.toNat) { m with counters := { m.counters with
          reverse := if d < 0 then min (ch.counters.reverse + 1) (2 ^ 32 - 1) else ch.counters.reverse
          low := if 0 ≤ d ∧ d < ch.minDT then min (ch.counters.low + 1) (2 ^ 32 - 1) else ch.counters.low } }))).withLink
        { s.link with flags := fl })

/-- The energy of a pulse (R77 to R79): the exact product, the carry, the band of the moment and the estimated accumulators, all saturating;
at most 858,968 Wh. -/
def Obligations.PulseEnergy : Prop :=
  ∀ (b : BandNo) (est : Bool) (dT : Nat) (ch : Channel) (x e : Nat), x = ch.pulseValue * dT * ch.k + ch.carry → e = x / 100000000 →
    ∃ h : ChannelHalf, ch.integrate b est dT = { ch with
        carry := x % 100000000, opn := h
        energy := min (ch.energy + e) (2 ^ 48 - 1)
        estimated := if est then min (ch.estimated + e) (2 ^ 48 - 1) else ch.estimated } ∧
      h.bands[b] = ⟨min (ch.opn.bands[b].value + e) (2 ^ 40 - 1),
        ch.opn.bands[b].saturated || decide (2 ^ 40 - 1 < ch.opn.bands[b].value + e)⟩ ∧
      (∀ y : BandNo, y ≠ b → h.bands[y] = ch.opn.bands[y]) ∧
      (est = false → h.estimated = ch.opn.estimated) ∧
      (est = true → h.estimated = ⟨min (ch.opn.estimated.value + e) (2 ^ 40 - 1),
        ch.opn.estimated.saturated || decide (2 ^ 40 - 1 < ch.opn.estimated.value + e)⟩) ∧
      (ch.pulseValue ≤ 65535 → dT ≤ 20000 → ch.k ≤ 65535 → ch.carry < 100000000 → e ≤ 858968)

/-! ### The allocator bus -/

/-- CONFIGURE BUS, BUS ON, BUS OFF and START SWEEP (R122 to R125, R138): refusals, effects and the status record answered, also while an act of
the ATU is handed over. The remaining budget in the records of BUS OFF and START SWEEP counts a free number of bit times up to the request, never
fewer than counted before (the model's choice, log 6, the free values being numbered by log 21). That BUS OFF takes effect at once with nothing
in hand, and that BUS ON completes the act handed over, are the model's readings (log 13); the count
toward the automatic sweep at its beacon is log 34. -/
def Obligations.BusRequests : Prop :=
  (∀ (cl g : Word16) (rl sl al si : Byte) (s : State), s.canTake (.configureBus cl g rl sl al si) = true →
    ((cl.toNat < 10 ∨ 3600 < cl.toNat ∨ 3 < rl.toNat ∨ sl = 0#8 ∨ sl = 255#8 ∨ al.toNat ≤ sl.toNat) →
      exec (.configureBus cl g rl sl al si) s = .next (s.answered 0x40 .badValue .empty)) ∧
    (10 ≤ cl.toNat → cl.toNat ≤ 3600 → rl.toNat ≤ 3 → 1 ≤ sl.toNat → sl.toNat ≤ 254 → sl.toNat < al.toNat →
      (s.abm.bus ≠ .off → exec (.configureBus cl g rl sl al si) s = .next (s.answered 0x40 .busy .empty)) ∧
      (s.abm.bus = .off → s.abm.cycle = none → ∀ cfg : BusConfig, cfg = ⟨cl.toNat, g.toNat, rl.toNat, sl.toNat, al.toNat, si.toNat⟩ →
        exec (.configureBus cl g rl sl al si) s = .next ((s.answered 0x40 .ok (.busStatus
          ⟨.off, none, s.abm.cycleNumber, none, s.abm.rotation, s.abm.sweep.active, s.abm.sweep.stack.length, s.abm.sweepCount,
            s.abm.lastSweep, cfg⟩)).withAbm { s.abm with config := cfg })))) ∧
  (∀ s : State, s.canTake .busOn = true →
    (s.abm.bus = .stopping → exec .busOn s = .next (s.answered 0x41 .busy .empty)) ∧
    (s.abm.bus = .running → exec .busOn s = .next (s.answered 0x41 .wrongState .empty)) ∧
    (∀ u : State, s.abm.bus = .off → s.abm.cycle = none → s.abm.activity = .none →
      (u = s ∧ (s.atu.handed = none ∨ s.atu.op ≠ none)) ∨
        (s.atu.op = none ∧
          (((∃ r, s.atu.handed = some (.accept r)) ∧ exec .acceptanceAct s = .next u) ∨
            ((∃ x, s.atu.handed = some (.miss x)) ∧ exec .missAct s = .next u) ∨
            ((∃ h, s.atu.handed = some (.learn none h)) ∧ exec .learning s = .next u) ∨
            ((∃ x, s.atu.handed = some (.setToggle none x)) ∧ exec .setExpectedToggle s = .next u))) →
      ∃ t, exec .busOn s = .next t ∧
        t.link = u.link.answered 0x41 .ok (.busStatus ⟨.running, some .beacon, s.abm.cycleNumber + 1,
          some ((s.abm.config.cycleLength * 2400 : Nat) : Int), 0, t.abm.sweep.active, t.abm.sweep.stack.length, t.abm.sweepCount,
          s.abm.lastSweep, s.abm.config⟩) ∧
        t.abm.rotation = 0 ∧ t.abm.totals = u.abm.totals ∧
        cycleBegins (u.withAbm { u.abm with bus := .running, rotation := 0, sweepCount := 0 }) t)) ∧
  (∀ s : State, s.canTake .busOff = true →
    (s.abm.bus = .off ∨ s.abm.bus = .stopping → ∃ n, s.countsOn n ∧
      exec .busOff s = .next (((s.answered 0x42 .ok (.busStatus (s.busRecord n))).counting n).withFreeUses (s.freeUses + 1))) ∧
    (∀ v : State, s.abm.bus = .running → s.abm.activity ≠ .none ∨ (∃ r h, s.atu.handed = some (.learn (some r) h)) →
      v = s.withAbm { s.abm with bus := .stopping } → ∃ n, s.countsOn n ∧
        exec .busOff s = .next (((v.answered 0x42 .ok (.busStatus (v.busRecord n))).counting n).withFreeUses (s.freeUses + 1))) ∧
    (∀ v : State, s.abm.bus = .running → s.abm.activity = .none →
      (v = s ∧ (∀ r h, s.atu.handed ≠ some (.learn (some r) h)) ∧ (∀ r x, s.atu.handed ≠ some (.setToggle (some r) x))) ∨
        (∃ r x, s.atu.handed = some (.setToggle (some r) x) ∧ v = s.withAtu { s.atu with handed := some (.setToggle none x) }) →
      ∃ t u r, exec .busOff s = .next t ∧ busStops v u ∧
        r = ⟨.off, none, s.abm.cycleNumber, none, s.abm.rotation, false, u.abm.sweep.stack.length, s.abm.sweepCount, u.abm.lastSweep,
          s.abm.config⟩ ∧
        t = (u.withLink (u.link.answered 0x42 .ok (.busStatus r))).withFreeUses (s.freeUses + 1))) ∧
  (∀ s : State, s.canTake .startSweep = true →
    (s.abm.bus ≠ .running → exec .startSweep s = .next (s.answered 0x43 .noCycle .empty)) ∧
    (s.abm.bus = .running → s.abm.sweep.active = true → exec .startSweep s = .next (s.answered 0x43 .busy .empty)) ∧
    (∀ v : State, s.abm.bus = .running → s.abm.sweep.active = false →
      v = s.withAbm { s.abm with sweep := ⟨true, [⟨0x00000000#32, 0xFFFFFFFF#32⟩]⟩, sweepCount := 0 } → ∃ n, s.countsOn n ∧
        exec .startSweep s = .next (((v.answered 0x43 .ok (.busStatus (v.busRecord n))).counting n).withFreeUses (s.freeUses + 1))))

/-- BEACON_INSTANT in WAIT, or with the budget spent and nothing in hand (R126, R129): the cycle begins; the first entry not reached gives the
rotation position of a POLL that is cut (R130), and time beyond the budget counts as an overrun. That the event waits for the acts of the
ATU is the model's reading (log 28); elapsed time is counted at bus events (log 5), an end exactly at the budget is left open (log 7),
and the count toward the automatic sweep while a sweep is active is log 34. -/
def Obligations.BeaconInstant : Prop :=
  ∀ (s : State) (c : Cycle), s.mainRuns = true → s.abm.bus = .running → s.abm.activity = .none → s.atu.handed = none →
    s.abm.cycle = some c → (c.phase = .wait ∨ (c.budget ≤ c.elapsed ∧ s.atu.op = none)) →
    ∃ t, exec .beaconInstant s = .next t ∧ cycleEnds s c t

/-- BEACON_SENT and READ_TRANSACTION_START (R125, R127, R128, R130, R131): POLL begins after 77 bit times, also while a Node Table operation is
in progress, which its next entry waits for; an empty table ends it at once; its next entry in rotation order is read, deferred by the
guard, or there is none, and WAIT or the sweep follows. Which event ends POLL is the model's choice (log 29); a first attempt that the guard stops
is no transaction (log 10). A stop takes effect at the end of the BEACON, also with an act handed over (log 13). -/
def Obligations.PollPhase : Prop :=
  (∀ (s u : State) (c d : Cycle), s.mainRuns = true → s.abm.activity = .beacon → s.abm.cycle = some c →
    d = { c with elapsed := c.elapsed + 77, passed := 0, phase := .poll, cursor := none } →
    u = s.withAbm { s.abm with activity := .none, cycle := some d } →
    (s.abm.bus = .running → s.nodes ≠ [] ∨ s.atu.op ≠ none ∨ s.atu.handed ≠ none → exec .beaconSent s = .next u) ∧
    (s.abm.bus = .running → s.nodes = [] → s.atu.op = none → s.atu.handed = none →
      ∃ t, exec .beaconSent s = .next t ∧ pollEnds u d t) ∧
    (s.abm.bus = .stopping → (∀ a, s.atu.handed = some a → a.range = none) → ∃ t, exec .beaconSent s = .next t ∧ busStops u t)) ∧
  (∀ (s : State) (c : Cycle), s.mainRuns = true → s.abm.bus = .running → s.abm.activity = .none → s.abm.cycle = some c → c.phase = .poll →
    (s.atu.op ≠ none ∨ s.atu.handed ≠ none → exec .readTransactionStart s = .next s) ∧
    (s.atu.op = none → s.atu.handed = none →
      (∀ e, isNextEntry s c e → mayStart s c →
        exec .readTransactionStart s = .next (s.withAbm { s.abm with
          activity := .attempt (.read e.serial e.toggle) 1 none, counters := s.abm.counters.oneMore })) ∧
      (∀ e, isNextEntry s c e → ¬mayStart s c →
        exec .readTransactionStart s = .next (s.withAbm { s.abm with rotation := e.serial, cycle := some { c with phase := .wait } })) ∧
      ((∀ e ∈ s.nodes, ¬isAhead s c e) → ∃ t, exec .readTransactionStart s = .next t ∧ pollEnds s c t)))

/-- The five ends of a reception (R119, R120): what the attempt in flight has drawn, valid with its fields or damaged, is kept for its
end, and the bit times of the attempt up to there have passed. That a reply with no attempt open changes nothing (log 2), that a reply comes too
late once more bit times have been counted (log 6), and that a damaged reply may come as READING, HERE or ENROLLED (log 33) are the model's
choices. -/
def Obligations.Receptions : Prop :=
  (∀ (s : State) (t : Transaction) (n : Nat) (c : Cycle), s.mainRuns = true → s.abm.activity = .attempt t n none → s.abm.cycle = some c →
    (∀ d f x e y, t = .read x e →
      y = (match readingOf f with
        | some r => .reading d.val r
        | none => .damaged) →
      (c.passed ≤ attemptLength t y - 11 →
        exec (.reading d f) s = .next (s.withAbm { s.abm with
          activity := .attempt t n (some y), cycle := some { c with passed := attemptLength t y - 11 } })) ∧
      (attemptLength t y - 11 < c.passed → exec (.reading d f) s = .next s)) ∧
    (∀ d f r y, t = .rollCall r →
      y = (match hereOf f with
        | some h => .here d.val h
        | none => .damaged) →
      (c.passed ≤ attemptLength t y - 11 → exec (.here d f) s = .next (s.withAbm { s.abm with
          activity := .attempt t n (some y), cycle := some { c with passed := attemptLength t y - 11 } })) ∧
      (attemptLength t y - 11 < c.passed → exec (.here d f) s = .next s)) ∧
    (∀ d f r x y, t = .enroll r x →
      y = (match enrolledOf f with
        | some z => .enrolled d.val z
        | none => .damaged) →
      (c.passed ≤ attemptLength t y - 11 → exec (.enrolled d f) s = .next (s.withAbm { s.abm with
          activity := .attempt t n (some y), cycle := some { c with passed := attemptLength t y - 11 } })) ∧
      (attemptLength t y - 11 < c.passed → exec (.enrolled d f) s = .next s)) ∧
    (∀ i y, (i = .replyTimeout ∧ y = .timedOut) ∨ (i = .replyWindowClose ∧ y = .damaged) →
      (c.passed ≤ attemptLength t y - 11 → exec i s = .next (s.withAbm { s.abm with
          activity := .attempt t n (some y), cycle := some { c with passed := attemptLength t y - 11 } })) ∧
      (attemptLength t y - 11 < c.passed → exec i s = .next s))) ∧
  (∀ (s : State) (i : Instr), (∀ t n, s.abm.activity ≠ .attempt t n none) →
    (∃ d f, i = .reading d f ∨ i = .here d f ∨ i = .enrolled d f) ∨ i = .replyTimeout ∨ i = .replyWindowClose → exec i s = .next s)

/-- The bytes of the two lines (R118, R119, R170, R171, R176, R197 to R200): the CRC of the nine bytes of "123456789"; an IDENTIFY frame; even
parity; the levels of a byte, and of the two transmit pins, byte after byte (log 17); READING, HERE and ENROLLED as a node sends them read back
whole, and damaged by one wrong parity or stop bit; the frames the ABM sends, with the driver enabled for them alone; the bytes of the tabled
replies, and the codes in them (R177, sections 11.4, 11.5). -/
def Obligations.Frames : Prop :=
  crc16 [0x31, 0x32, 0x33, 0x34, 0x35, 0x36, 0x37, 0x38, 0x39] = 0x29B1#16 ∧
    hostFrame 0x01 [] = [0xA5#8, 1#8, 1#8] ++ bytes16 (crc16 [1#8, 1#8]) ∧
    (∀ b : Byte, ([b[0], b[1], b[2], b[3], b[4], b[5], b[6], b[7], evenParity b].count true) % 2 = 0) ∧
    (∀ b : Byte, busBits b = [false, b[0], b[1], b[2], b[3], b[4], b[5], b[6], b[7], evenParity b, true] ∧
      hostBits b = [false, b[0], b[1], b[2], b[3], b[4], b[5], b[6], b[7], true]) ∧
    (∀ (x : Serial) (tg : Bool) (z : ZoneNo) (units : Word16) (k st : Byte) (kind : NodeKind) (status : ReadingStatus)
        (body : List Byte) (wire : Byte → BusByte),
      (∀ b, wire b = ⟨b, evenParity b, true⟩) →
      (k = 0#8 ∧ kind = .allocator) ∨ (k = 1#8 ∧ kind = .fancoil) ∨ (k = 2#8 ∧ kind = .submeter) →
      (st = 0#8 ∧ status = .ok) ∨ (st = 1#8 ∧ status = .tamper) ∨ (st = 2#8 ∧ status = .busy) →
      body = bytes32 x ++ [if tg then 1#8 else 0#8, BitVec.ofNat 8 z.val, k] ++ bytes16 units ++ [st] →
      (busFrame 0x82#8 body = [0x55#8, 11#8, 0x82#8] ++ body ++ bytes16 (crc16 ([11#8, 0x82#8] ++ body))) ∧
      readingOf ((busFrame 0x82#8 body).map wire) = some ⟨x, tg, z, kind, units.toNat, status⟩ ∧
      hereOf ((busFrame 0x83#8 (bytes32 x ++ [BitVec.ofNat 8 z.val, k])).map wire) = some ⟨x, z, kind⟩ ∧
      enrolledOf ((busFrame 0x84#8 (bytes32 x)).map wire) = some x ∧
      ∀ pre b post, busFrame 0x82#8 body = pre ++ b :: post →
        readingOf (pre.map wire ++ ⟨b, !(evenParity b), true⟩ :: post.map wire) = none ∧
        readingOf (pre.map wire ++ ⟨b, evenParity b, false⟩ :: post.map wire) = none) ∧
    (∀ (x : Serial) (e : Bool) (r : Range),
      (Transaction.read x e).frame = [0x55#8, 6#8, 2#8] ++ bytes32 x ++ [if e then 1#8 else 0#8] ++
        bytes16 (crc16 ([6#8, 2#8] ++ bytes32 x ++ [if e then 1#8 else 0#8])) ∧
      (Transaction.rollCall r).frame = [0x55#8, 9#8, 3#8] ++ bytes32 r.lo ++ bytes32 r.hi ++
        bytes16 (crc16 ([9#8, 3#8] ++ bytes32 r.lo ++ bytes32 r.hi)) ∧
      (Transaction.enroll r x).frame = [0x55#8, 5#8, 4#8] ++ bytes32 x ++ bytes16 (crc16 ([5#8, 4#8] ++ bytes32 x))) ∧
    (∀ (s : State) (t : Nat), s.mainRuns = true → s.abm.bus ≠ .off →
      (s.abm.activity = .beacon → s.busFrame? = some ([0x55#8, 3#8, 1#8] ++ bytes16 s.abm.cycleNumber ++
        bytes16 (crc16 ([3#8, 1#8] ++ bytes16 s.abm.cycleNumber))) ∧ s.driverEnabled t = decide (t < 77)) ∧
      (∀ x e r n, (s.abm.activity = .attempt (.read x e) n none → s.driverEnabled t = decide (t < 110)) ∧
        (s.abm.activity = .attempt (.rollCall r) n none → s.driverEnabled t = decide (t < 143)) ∧
        (s.abm.activity = .attempt (.enroll r x) n none → s.driverEnabled t = decide (t < 99)))) ∧
    (∀ (s : State) (t : Nat), (s.driverEnabled t = false → s.busTransmit t = true) ∧
      (s.mainRuns = false ∨ s.abm.bus = .off → s.driverEnabled t = false) ∧
      (∀ tr n y g x, s.abm.activity = .none ∨ s.abm.activity = .learning g x ∨ s.abm.activity = .attempt tr n (some y) →
        s.driverEnabled t = false) ∧
      (s.mainRuns = false ∨ (∀ r, s.link.receiver ≠ .send r) → s.hostTransmit t = true)) ∧
    (∀ (s : State) (k i : Nat) (b : Byte), s.mainRuns = true →
      (∀ f, s.abm.bus ≠ .off → s.busFrame? = some f → f[k]? = some b → i < 11 → s.busTransmit (11 * k + i) = (busBits b).getD i true) ∧
      (∀ r, s.link.receiver = .send r → r.frame[k]? = some b → i < 10 → s.hostTransmit (10 * k + i) = (hostBits b).getD i true)) ∧
    (∀ w n : Nat, leBytes w n = (List.range w).map fun i => BitVec.ofNat 8 (n / 256 ^ i)) ∧
    (∀ f : EventFlags, f.word[0] = (f.settled != 0) ∧ f.word[1] = f.channelFault ∧ f.word[2] = f.overspeed ∧ f.word[3] = f.nodeSilent ∧
      f.word[4] = f.nodeHalted ∧ f.word[5] = f.nodeTableFull ∧ f.word[6] = f.sweepDone ∧ f.word[7] = f.cycleOverrun ∧
      f.word[8] = f.supplyBackup ∧ f.word[9] = f.supplyMain ∧ f.word[10] = f.coldStart ∧ f.word[11] = f.linkOverrun ∧
      f.word[12] = false ∧ f.word[13] = false ∧ f.word[14] = false ∧ f.word[15] = false) ∧
    [Status.ok, .busy, .notReady, .badValue, .badIndex, .wrongState, .conflict, .full, .uncollected, .noCycle, .unknownRequest].map Status.code =
      [0x00, 0x01, 0x02, 0x03, 0x04, 0x05, 0x06, 0x07, 0x08, 0x09, 0x0A] ∧
    [AccountState.free, .opened, .vacant].map AccountState.code = [0, 1, 2] ∧
    [StatementKind.current, .lastCollected].map StatementKind.code = [0, 1] ∧
    [ZoneState.unused, .opened, .armed, .queued, .settling].map ZoneState.code = [0, 1, 2, 3, 4] ∧
    [CloseCause.none, .immediate, .cycleEnd, .busStop].map CloseCause.code = [0, 1, 2, 3] ∧
    (∀ (type : Byte) (status : Status) (content : Content), (Reply.mk type status content).frame =
      hostFrame type (BitVec.ofNat 8 status.code :: if status = .ok then content.bytes else [])) ∧
    (∀ r : EventsRecord, (Content.events r).bytes =
      bytes16 r.number ++ bytes16 r.flags.word ++ bytes16 r.flags.settled ++ bytes16 r.mask) ∧
    (∀ (m : Word16) (f : EventFlags), (Content.mask m f).bytes = bytes16 m ++ bytes16 f.word ++ bytes16 f.settled) ∧
    (∀ x : Statement, (Content.statement x).bytes.length = 144 ∧ ∃ flags : Byte,
      flags[0] = x.pending ∧ flags[1] = x.unbilled.estimated ∧ flags[2] = x.unbilled.saturated ∧
      flags[3] = x.lifetime.saturated.heating ∧ flags[4] = x.lifetime.saturated.cooling ∧ flags.toNat < 32 ∧
      (Content.statement x).bytes =
        leBytes 1 x.account.val ++ leBytes 1 x.accountState.code ++ leBytes 1 x.kind.code ++ bytes16 x.number ++ [flags] ++
        leBytes 2 x.unbilled.count ++
        ((List.finRange 4).flatMap fun b => leBytes 5 x.unbilled.energy.heating[b]) ++
        ((List.finRange 4).flatMap fun b => leBytes 5 x.unbilled.energy.cooling[b]) ++
        ((List.finRange 4).flatMap fun b => leBytes 8 x.unbilled.cost.heating[b]) ++
        ((List.finRange 4).flatMap fun b => leBytes 8 x.unbilled.cost.cooling[b]) ++
        leBytes 8 x.unbilled.standing ++ leBytes 6 x.lifetime.energy.heating ++ leBytes 6 x.lifetime.energy.cooling ++
        leBytes 6 x.house.fromVacancies ++ leBytes 6 x.house.fromMemberless) ∧
    (∀ x : SettlementReply, (Content.settlement x).bytes.length = 145 ∧ ∃ (flags : Byte) (stage : Nat),
      flags[0] = x.record.allArea ∧ flags[1] = x.record.noMembers ∧ flags[2] = x.record.saturated ∧ flags[3] = x.record.standing.isSome ∧
      flags.toNat < 16 ∧ (x.stage = none → stage = 0xFF) ∧ (x.stage = some .gather → stage = 0) ∧ (x.stage = some .fixed → stage = 1) ∧
      (x.stage = some .consumption → stage = 2) ∧ (x.stage = some .area → stage = 3) ∧ (x.stage = some .standing → stage = 4) ∧
      (x.stage = some .post → stage = 5) ∧ (x.stage = some .release → stage = 6) ∧
      (Content.settlement x).bytes =
        leBytes 1 x.zone.val ++ leBytes 1 x.state.code ++ bytes16 x.number ++ leBytes 1 x.queueLength ++
        leBytes 1 (x.position.getD 0xFF) ++ leBytes 1 stage ++ bytes16 x.record.number ++ leBytes 1 x.record.cause.code ++
        bytes16 x.record.cycle ++
        ((List.finRange 4).flatMap fun b => leBytes 6 x.record.bands[b].p ++ leBytes 6 x.record.bands[b].f ++
          leBytes 6 x.record.bands[b].c ++ leBytes 6 x.record.bands[b].unattributed ++ leBytes 6 x.record.bands[b].house) ++
        leBytes 6 x.record.estimated ++ leBytes 5 (x.record.standing.getD 0) ++ leBytes 1 x.record.memberCount ++ [flags])

/-- The end of a READ attempt, with the bus RUNNING or STOPPING (R120, R125, R128, R129, R132 to R137): its time, its counter, and what follows:
an act handed over, a retry, a deferral, the stop, the next cycle, or nothing where the entry is gone or its removal in progress (R137, R150). The
model's readings: time counted at the end of an attempt (log 5), the stop before a retry and before the act at the end of a last attempt (log 11),
the counting of an abandoned attempt (log 12), and at a beacon instant that follows the count toward the automatic sweep (log 34). -/
def Obligations.ReadAttemptEnd : Prop :=
  (∀ x e d r, attemptLength (.read x e) .timedOut = 143 ∧ attemptLength (.read x e) .damaged = 308 ∧
    attemptLength (.read x e) (.reading d r) = 286 + d) ∧
  ∀ (s v u : State) (c d : Cycle) (x : Serial) (e : Bool) (n : Nat) (reply : AttemptReply) (k : BusCounters),
    s.mainRuns = true → s.abm.bus = .running ∨ s.abm.bus = .stopping → s.abm.activity = .attempt (.read x e) n (some reply) →
    s.abm.cycle = some c → s.atu.handed = none → d = { c with elapsed := c.elapsed + attemptLength (.read x e) reply, passed := 0 } →
    v = s.withAbm { s.abm with activity := .none, cycle := some d, counters := k } →
    u = s.withAbm { s.abm with activity := .none, cycle := some { d with cursor := some x }, counters := k } →
    ((∃ y, isPresent s y ∧ y.serial = x) →
      (∀ b r, reply = .reading b r → r.serial = x → r.status ≠ .busy → r.toggle = e → k = s.abm.counters →
        (s.abm.bus = .running → exec .attemptEnd s = .next (u.withAtu { s.atu with handed := some (.accept r) })) ∧
        (s.abm.bus = .stopping → ∃ t, exec .attemptEnd s = .next t ∧ busStops (u.withAtu { s.atu with handed := some (.accept r) }) t)) ∧
      (∀ b r, reply = .reading b r → r.serial = x → r.status ≠ .busy → r.toggle ≠ e →
        k = { s.abm.counters with duplicates := min (s.abm.counters.duplicates + 1) (2 ^ 32 - 1) } →
        ∃ t, exec .attemptEnd s = .next t ∧ worksOn u t) ∧
      (failedRead x reply s.abm.counters k → n ≤ s.abm.config.retryLimit →
        (s.abm.bus = .running → mayStart s d → exec .attemptEnd s = .next (v.withAbm { v.abm with activity := .attempt (.read x e) (n + 1) none })) ∧
        (s.abm.bus = .running → ¬mayStart s d → ∃ t, exec .attemptEnd s = .next t ∧
          worksOn (v.withAbm { v.abm with rotation := x, cycle := some { d with phase := .wait } }) t) ∧
        (s.abm.bus = .stopping → ∃ t, exec .attemptEnd s = .next t ∧ busStops v t)) ∧
      (failedRead x reply s.abm.counters k → s.abm.config.retryLimit < n →
        (s.abm.bus = .running → exec .attemptEnd s = .next (u.withAtu { s.atu with handed := some (.miss x) })) ∧
        (s.abm.bus = .stopping → ∃ t, exec .attemptEnd s = .next t ∧ busStops (u.withAtu { s.atu with handed := some (.miss x) }) t))) ∧
    ((∀ y, isPresent s y → y.serial ≠ x) →
      failedRead x reply s.abm.counters k ∨
        (∃ b r, reply = .reading b r ∧ r.serial = x ∧ r.status ≠ .busy ∧
          (r.toggle = e → k = s.abm.counters) ∧
          (r.toggle ≠ e → k = { s.abm.counters with duplicates := min (s.abm.counters.duplicates + 1) (2 ^ 32 - 1) })) →
      ∃ t, exec .attemptEnd s = .next t ∧ worksOn u t)

/-- The end of a ROLL CALL or ENROLL attempt, with the bus RUNNING or STOPPING, within the budget or beyond it, over a range of one serial or more
(R120, R125, R128, R129, R139 to R144): what the sweep does with the range it asked. Time is counted at the end of the attempt (log 5), the sweep's
next step is part of it (log 28), the stop comes before the act at the end of a last attempt (log 11), and the count toward the
automatic sweep at a beacon instant that follows is log 34: the model's choices and readings. -/
def Obligations.SweepAttemptEnd : Prop :=
  (∀ r x d h y, attemptLength (.rollCall r) .timedOut = 176 ∧ attemptLength (.rollCall r) .damaged = 297 ∧
    attemptLength (.rollCall r) (.here d h) = 275 + d ∧ attemptLength (.enroll r x) .timedOut = 132 ∧
    attemptLength (.enroll r x) .damaged = 231 ∧ attemptLength (.enroll r x) (.enrolled d y) = 209 + d) ∧
  ∀ (s v : State) (c d : Cycle) (r : Range) (reply : AttemptReply) (tr : Transaction) (n : Nat) (k : BusCounters),
    s.mainRuns = true → s.abm.bus = .running ∨ s.abm.bus = .stopping → s.abm.cycle = some c → c.phase = .sweep →
    s.abm.activity = .attempt tr n (some reply) → s.atu.handed = none →
    d = { c with elapsed := c.elapsed + attemptLength tr reply, passed := 0 } →
    v = s.withAbm { s.abm with activity := .none, cycle := some d, counters := k } →
    (tr = .rollCall r →
      (∀ b h, reply = .here b h → r.lo ≤ h.serial → h.serial ≤ r.hi → k = s.abm.counters →
        (s.abm.bus = .running → exec .attemptEnd s = .next (v.withAtu { s.atu with handed := some (.learn (some r) h) })) ∧
        (s.abm.bus = .stopping → ∃ t, exec .attemptEnd s = .next t ∧ busStops (v.withAtu { s.atu with handed := some (.learn none h) }) t)) ∧
      ((reply = .timedOut ∧ k = { s.abm.counters with timeouts := min (s.abm.counters.timeouts + 1) (2 ^ 32 - 1) }) ∨
        (∃ b h, reply = .here b h ∧ (h.serial < r.lo ∨ r.hi < h.serial) ∧
          k = { s.abm.counters with wrongResponders := min (s.abm.counters.wrongResponders + 1) (2 ^ 32 - 1) }) →
        ∃ t, exec .attemptEnd s = .next t ∧ worksOn v t) ∧
      (reply = .damaged → k = { s.abm.counters with crcErrors := min (s.abm.counters.crcErrors + 1) (2 ^ 32 - 1) } →
        (r.lo < r.hi → ∃ t, exec .attemptEnd s = .next t ∧ worksOn (v.halved d r) t) ∧
        (r.lo = r.hi → ∃ t, exec .attemptEnd s = .next t ∧
          worksOn (v.withAbm { v.abm with totals :=
            { s.abm.totals with unresolved := min (s.abm.totals.unresolved + 1) (2 ^ 32 - 1) } }) t))) ∧
    (∀ x, tr = .enroll r x →
      (∀ b, reply = .enrolled b x → k = s.abm.counters →
        (s.abm.bus = .running → exec .attemptEnd s = .next (v.withAtu { s.atu with handed := some (.setToggle (some r) x) })) ∧
        (s.abm.bus = .stopping → ∃ t, exec .attemptEnd s = .next t ∧ busStops (v.withAtu { s.atu with handed := some (.setToggle none x) }) t)) ∧
      ((reply = .timedOut ∧ k = { s.abm.counters with timeouts := min (s.abm.counters.timeouts + 1) (2 ^ 32 - 1) }) ∨
        (reply = .damaged ∧ k = { s.abm.counters with crcErrors := min (s.abm.counters.crcErrors + 1) (2 ^ 32 - 1) }) ∨
        (∃ b y, reply = .enrolled b y ∧ y ≠ x ∧
          k = { s.abm.counters with wrongResponders := min (s.abm.counters.wrongResponders + 1) (2 ^ 32 - 1) }) →
        (n ≤ s.abm.config.retryLimit → s.abm.bus = .running → mayStart s d →
          exec .attemptEnd s = .next (v.withAbm { v.abm with activity := .attempt (.enroll r x) (n + 1) none })) ∧
        (n ≤ s.abm.config.retryLimit → s.abm.bus = .stopping ∨ ¬mayStart s d →
          ∃ t, exec .attemptEnd s = .next t ∧ worksOn ((v.restacked r).waiting d) t) ∧
        (s.abm.config.retryLimit < n → ∃ t, exec .attemptEnd s = .next t ∧ worksOn (v.halved d r) t)))

/-! ### Nodes, points and attribution -/

/-- The acceptance act (R133, R155 to R160): the entry's record, zone, state and tally, and the one place that the units go to. -/
def Obligations.AcceptanceAct : Prop :=
  ∀ (s : State) (r : Reading) (l rs : List NodeEntry) (e : NodeEntry) (z : Zone) (base : AtuCounters), s.mainRuns = true →
    s.atu.op = none → s.atu.handed = some (.accept r) → r.status ≠ .busy →
    s.nodes = l ++ e :: rs → e.serial = r.serial → (∀ y ∈ l ++ rs, y.serial ≠ r.serial) → z = s.zones[r.zone] →
    base = { s.atu.counters with
      resolved := min (s.atu.counters.resolved + 1) (2 ^ 32 - 1)
      saturated := if r.units = 65535 then min (s.atu.counters.saturated + 1) (2 ^ 32 - 1) else s.atu.counters.saturated } →
    ∃ t, exec .acceptanceAct s = .next t ∧
      t = ((((s.withNodes t.nodes).withAtu t.atu).withAbm t.abm).withZones t.zones).withLink
        { s.link with flags := { s.link.flags with
          nodeHalted := s.link.flags.nodeHalted || (r.status == .tamper && e.state != .halted) } } ∧
      (z.state = .unused →
        t.nodes = l ++ { e with
          toggle := !e.toggle, misses := 0, lastUnits := some r.units, lastCycle := some s.abm.cycleNumber
          lastStatus := some (if r.status = .tamper then .tamper else .ok)
          state := if r.status = .tamper ∨ e.state = .halted then .halted else .active } :: rs ∧
        t.atu = { s.atu with handed := none, counters := base, orphan := min (s.atu.orphan + r.units) (2 ^ 48 - 1) } ∧
        t.zones = s.zones ∧
        t.abm = { s.abm with totals := { s.abm.totals with zoneInvalid := min (s.abm.totals.zoneInvalid + 1) (2 ^ 32 - 1) } }) ∧
      (z.state ≠ .unused →
        t.abm = { s.abm with totals := { s.abm.totals with
          migrations := if e.zone = r.zone then s.abm.totals.migrations else min (s.abm.totals.migrations + 1) (2 ^ 32 - 1) } } ∧
        (r.status = .tamper ∨ e.state = .halted →
          t.nodes = l ++ { e with
            toggle := !e.toggle, misses := 0, lastUnits := some r.units, lastCycle := some s.abm.cycleNumber
            lastStatus := some (if r.status = .tamper then .tamper else .ok)
            state := .halted, zone := r.zone
            tally := min (e.tally + r.units) 16777215
            tallySaturated := e.tallySaturated || decide (16777215 < e.tally + r.units) } :: rs ∧
          t.atu = { s.atu with handed := none, counters := { base with
            quarantined := min (s.atu.counters.quarantined + 1) (2 ^ 32 - 1) } } ∧
          t.zones = s.zones) ∧
        (r.status ≠ .tamper → e.state ≠ .halted →
          t.nodes = l ++ { e with
            toggle := !e.toggle, misses := 0, lastUnits := some r.units, lastCycle := some s.abm.cycleNumber
            lastStatus := some .ok, state := .active, zone := r.zone } :: rs ∧
          ((∀ i : PointNo, ¬pointMatches s.points[i] r.serial r.zone) →
            t.atu = { s.atu with handed := none, counters := { base with
              unassigned := min (s.atu.counters.unassigned + 1) (2 ^ 32 - 1) } } ∧
            t.zones = s.zones.set r.zone { z with openU := z.openU.add (2 ^ 48 - 1) (r.units * 1000) }) ∧
          (∀ i : PointNo, pointMatches s.points[i] r.serial r.zone → (∀ j : PointNo, j < i → ¬pointMatches s.points[j] r.serial r.zone) →
            (s.points[i].kind ≠ r.kind →
              t.atu = { s.atu with handed := none, counters := { base with
                mismatch := min (s.atu.counters.mismatch + 1) (2 ^ 32 - 1) } } ∧
              t.zones = s.zones.set r.zone { z with openU := z.openU.add (2 ^ 48 - 1) (r.units * 1000) }) ∧
            (s.points[i].kind = r.kind → (∀ m ∈ z.members, m.account ≠ s.points[i].account) →
              t.atu = { s.atu with handed := none, counters := { base with
                nonMember := min (s.atu.counters.nonMember + 1) (2 ^ 32 - 1) } } ∧
              t.zones = s.zones.set r.zone { z with openU := z.openU.add (2 ^ 48 - 1) (r.units * 1000) }) ∧
            (∀ ml m mr, s.points[i].kind = r.kind → z.members = ml ++ m :: mr → m.account = s.points[i].account →
              (∀ y ∈ ml ++ mr, y.account ≠ s.points[i].account) →
              t.atu = { s.atu with handed := none, counters := { base with
                member := min (s.atu.counters.member + 1) (2 ^ 32 - 1) } } ∧
              t.zones = s.zones.set r.zone { z with members :=
                ml ++ { m with openW := m.openW.add (2 ^ 48 - 1) (r.units * s.points[i].factor) } :: mr }))))

/-- The miss act (R136, R153): misses, SILENT, and the removal that the age limit begins; an act that finds its entry gone (R150), where the drop of
an acceptance act is the model's choice (log 32); and acts that wait for a Node Table operation. -/
def Obligations.MissAct : Prop :=
  (∀ (s : State) (x : Serial) (l rs : List NodeEntry) (e : NodeEntry) (m : Nat) (st : NodeState), s.mainRuns = true → s.atu.op = none →
    s.atu.handed = some (.miss x) → s.nodes = l ++ e :: rs → e.serial = x → (∀ y ∈ l ++ rs, y.serial ≠ x) → m = min (e.misses + 1) 255 →
    st = (if e.state = .active ∧ s.abm.config.silentLimit ≤ m then .silent else e.state) →
    exec .missAct s = .next (((s.withNodes (l ++ { e with misses := m, state := st } :: rs)).withAtu { s.atu with
      handed := none, op := if st = .silent ∧ s.abm.config.ageLimit ≤ m then some (.removal x .aging) else none }).withLink
      { s.link with flags := { s.link.flags with
        nodeSilent := s.link.flags.nodeSilent || (e.state == .active && st == .silent) } })) ∧
  (∀ (s : State) (x : Serial), s.mainRuns = true → s.atu.op = none → (∀ y ∈ s.nodes, y.serial ≠ x) →
    (s.atu.handed = some (.miss x) → exec .missAct s = .next (s.withAtu { s.atu with handed := none })) ∧
    (∀ r, s.atu.handed = some (.accept r) → r.serial = x →
      exec .acceptanceAct s = .next (s.withAtu { s.atu with handed := none }))) ∧
  ∀ (s : State) (op : NodeOp), s.atu.op = some op → exec .missAct s = .next s ∧ exec .acceptanceAct s = .next s ∧
    exec .learning s = .next s ∧ exec .setExpectedToggle s = .next s

/-- Learning and the setting of the expected toggle (R141 to R143, R151, R152), with the sweep's next step, the stop or the next cycle that follows,
in a RUNNING or STOPPING bus, within the budget or beyond it (R125, R129); and an act that no sweep waits for any more since a stop, with the bus
OFF or at work on something else (log 11, log 13). That an ENROLL prevented before its first attempt counts as no transaction (log 10), and that
the sweep's next step is judged before the end of the budget (log 28), are the model's readings. That learning without an insertion and the setting
of a toggle take no bit time (log 5), and the count toward the automatic sweep at a beacon instant that follows (log 34), are its choices. -/
def Obligations.LearningAct : Prop :=
  (∀ (s v : State) (c : Cycle) (g : Range), s.mainRuns = true → s.atu.op = none → s.abm.bus = .running ∨ s.abm.bus = .stopping →
    s.abm.activity = .none → s.abm.cycle = some c → c.phase = .sweep → v = s.withAtu { s.atu with handed := none } →
    (∀ h, s.atu.handed = some (.learn (some g) h) →
      (s.zones[h.zone].state = .unused → ∃ t, exec .learning s = .next t ∧
        worksOn ((v.withAbm { s.abm with totals :=
          { s.abm.totals with zoneInvalid := min (s.abm.totals.zoneInvalid + 1) (2 ^ 32 - 1) } }).halved c g) t) ∧
      (s.zones[h.zone].state ≠ .unused →
        (∀ l e rs w, s.nodes = l ++ e :: rs → e.serial = h.serial → (∀ y ∈ l ++ rs, y.serial ≠ h.serial) →
          w = v.withNodes (l ++ { e with
            zone := h.zone, kind := h.kind, toggle := true
            state := if e.state = .halted then .halted else .active
            misses := if e.state = .halted then e.misses else 0 } :: rs) →
          (s.abm.bus = .running → mayStart s c → exec .learning s = .next (w.withAbm { s.abm with
            activity := .attempt (.enroll g h.serial) 1 none, counters := s.abm.counters.oneMore })) ∧
          (s.abm.bus = .stopping ∨ ¬mayStart s c → ∃ t, exec .learning s = .next t ∧ worksOn ((w.restacked g).waiting c) t)) ∧
        ((∀ y ∈ s.nodes, y.serial ≠ h.serial) → 384 ≤ s.nodes.length → ∃ t, exec .learning s = .next t ∧
          worksOn (((v.withAbm { s.abm with totals :=
            { s.abm.totals with tableFull := min (s.abm.totals.tableFull + 1) (2 ^ 32 - 1) } }).sweepOver c .abortedTableFull).withLink
            { s.link with flags := { s.link.flags with sweepDone := true, nodeTableFull := true } }) t) ∧
        ((∀ y ∈ s.nodes, y.serial ≠ h.serial) → s.nodes.length < 384 →
          exec .learning s = .next ((s.withAtu { s.atu with handed := none, op := some (.insertion h) }).withAbm
            { s.abm with activity := .learning g h.serial })))) ∧
    (∀ x, s.atu.handed = some (.setToggle (some g) x) → ∃ t, exec .setExpectedToggle s = .next t ∧
      worksOn ((v.withNodes (s.nodes.map fun y => if y.serial = x then { y with toggle := true } else y)).restacked g) t)) ∧
  (∀ (s v : State), s.mainRuns = true → s.atu.op = none → v = s.withAtu { s.atu with handed := none } →
    (s.abm.bus = .off ∧ s.abm.cycle = none ∧ s.abm.activity = .none) ∨ s.abm.activity = .beacon ∨
      (∃ c, s.abm.bus = .running ∧ s.abm.activity = .none ∧ s.abm.cycle = some c ∧ c.phase ≠ .sweep ∧ c.elapsed < c.budget) →
    (∀ h, s.atu.handed = some (.learn none h) →
      (s.zones[h.zone].state = .unused → exec .learning s = .next (v.withAbm { s.abm with totals :=
        { s.abm.totals with zoneInvalid := min (s.abm.totals.zoneInvalid + 1) (2 ^ 32 - 1) } })) ∧
      (s.zones[h.zone].state ≠ .unused →
        (∀ l e rs, s.nodes = l ++ e :: rs → e.serial = h.serial → (∀ y ∈ l ++ rs, y.serial ≠ h.serial) →
          exec .learning s = .next (v.withNodes (l ++ { e with
            zone := h.zone, kind := h.kind, toggle := true
            state := if e.state = .halted then .halted else .active
            misses := if e.state = .halted then e.misses else 0 } :: rs))) ∧
        ((∀ y ∈ s.nodes, y.serial ≠ h.serial) → 384 ≤ s.nodes.length → exec .learning s = .next (v.withAbm { s.abm with totals :=
          { s.abm.totals with tableFull := min (s.abm.totals.tableFull + 1) (2 ^ 32 - 1) } })) ∧
        ((∀ y ∈ s.nodes, y.serial ≠ h.serial) → s.nodes.length < 384 →
          exec .learning s = .next (s.withAtu { s.atu with handed := none, op := some (.insertion h) })))) ∧
    (∀ x, s.atu.handed = some (.setToggle none x) → exec .setExpectedToggle s =
      .next (v.withNodes (s.nodes.map fun y => if y.serial = x then { y with toggle := true } else y))))

/-- The end of a Node Table operation (R125, R128 to R130, R141, R142, R148, R150, R153, R154): the table changes in one step and FORGET NODE is
answered; a bus that does not wait is left alone, with the bus OFF or at work; a bus that waits, RUNNING or STOPPING, counts the time, within the
budget or beyond it; and the ENROLL of a learned node begins, or the guard or a stop prevents it. The wait is an operand of at most 5 bit times
(the model's choice, log 5), and never fewer than counted before (log 6). A learning handed over counts as a wait of the sweep (log 13), and an ENROLL
prevented before its first attempt as no transaction (log 10): the model's readings. The count toward the automatic sweep at a beacon instant that
follows is log 34. -/
def Obligations.NodeTableOpEnd : Prop :=
  ∀ (s v : State) (w : Fin 6) (op : NodeOp), s.mainRuns = true → s.atu.op = some op →
    (∃ h l rs, op = .insertion h ∧ s.nodes = l ++ rs ∧ (∀ y ∈ l, y.serial < h.serial) ∧ (∀ y ∈ rs, h.serial < y.serial) ∧
      v = (s.withAtu { s.atu with op := none }).withNodes
        (l ++ ⟨h.serial, h.zone, h.kind, .active, true, 0, none, none, none, 0, false⟩ :: rs)) ∨
    (∃ x, op = .removal x .aging ∧ v = (s.withAtu { s.atu with op := none }).withNodes (s.nodes.filter fun y => y.serial != x)) ∨
    (∃ x type ns, op = .removal x .forget ∧ s.link.receiver = .processTaken type ∧ ns = s.nodes.filter (fun y => y.serial != x) ∧
      v = ((s.withAtu { s.atu with op := none }).withNodes ns).withLink { s.link with
        receiver := .send ⟨type ||| 0x80#8, .ok, .forgotten x ns.length⟩ }) →
    ((s.abm.cycle = none ∧ s.abm.activity = .none) ∨ s.abm.activity = .beacon ∨ (∃ tr n reply, s.abm.activity = .attempt tr n reply) ∨
      (∃ c, s.abm.cycle = some c ∧ s.abm.activity = .none ∧ s.atu.handed = none ∧ c.phase ≠ .poll) →
      exec (.nodeTableOpEnd w) s = .next v) ∧
    ∀ c d, s.abm.bus = .running ∨ s.abm.bus = .stopping → s.abm.cycle = some c →
      d = { c with elapsed := c.elapsed + max w.val c.passed, passed := 0 } →
      (s.abm.activity = .none →
        (s.atu.handed ≠ none → s.abm.bus = .running ∨ (∃ r h, s.atu.handed = some (.learn (some r) h)) →
          exec (.nodeTableOpEnd w) s = .next (v.withAbm { s.abm with cycle := some d })) ∧
        (s.atu.handed = none → c.phase = .poll → ∃ t, exec (.nodeTableOpEnd w) s = .next t ∧
          worksOn (v.withAbm { s.abm with cycle := some d }) t)) ∧
      (∀ h g, op = .insertion h → s.abm.activity = .learning g h.serial → s.atu.handed = none →
        (s.abm.bus = .running → mayStart s d → exec (.nodeTableOpEnd w) s = .next (v.withAbm { s.abm with
          activity := .attempt (.enroll g h.serial) 1 none, cycle := some d, counters := s.abm.counters.oneMore })) ∧
        (s.abm.bus = .stopping ∨ ¬mayStart s d → ∃ t, exec (.nodeTableOpEnd w) s = .next t ∧
          worksOn ((v.restacked g).waiting d) t))

/-- READ NODE, RELEASE NODE and FORGET NODE (R154, R163, R167): the checks in their order and their effects. -/
def Obligations.NodeRequests : Prop :=
  (∀ (sel : Byte) (key : BitVec 32) (s : State), s.canTake (.readNode sel key) = true →
    ((1 < sel.toNat ∨ (sel = 0#8 ∧ 383 < key.toNat)) → exec (.readNode sel key) s = .next (s.answered 0x44 .badValue .empty)) ∧
    ((sel = 0#8 ∧ key.toNat ≤ 383) ∨ sel = 1#8 →
      (s.atu.op ≠ none → exec (.readNode sel key) s = .next (s.answered 0x44 .notReady .empty)) ∧
      (s.atu.op = none → ∃ f : Option FoundNode, exec (.readNode sel key) s = .next (s.answered 0x44 .ok (.nodeRecord s.nodes.length f)) ∧
        (sel = 0#8 → f.map (·.entry) = s.nodes[key.toNat]? ∧ ∀ n, f = some n → n.index = key.toNat) ∧
        (sel = 1#8 → (f = none ↔ ∀ y ∈ s.nodes, y.serial ≠ key) ∧ ∀ n, f = some n → n.entry.serial = key ∧ s.nodes[n.index]? = some n.entry) ∧
        ∀ n, f = some n → (n.point = none ↔ ∀ i : PointNo, ¬pointMatches s.points[i] n.entry.serial n.entry.zone) ∧
          ∀ p, n.point = some p → pointMatches s.points[p.index] n.entry.serial n.entry.zone ∧ p.kind = s.points[p.index].kind ∧
            p.account = s.points[p.index].account ∧
            (p.member = true ↔ ∃ m ∈ s.zones[n.entry.zone].members, m.account = p.account)))) ∧
  (∀ (x : Serial) (db : Byte) (s : State), s.canTake (.releaseNode x db) = true →
    (1 < db.toNat → exec (.releaseNode x db) s = .next (s.answered 0x45 .badValue .empty)) ∧
    (db.toNat ≤ 1 → s.atu.op ≠ none → exec (.releaseNode x db) s = .next (s.answered 0x45 .notReady .empty)) ∧
    (db.toNat ≤ 1 → s.atu.op = none → (∀ y ∈ s.nodes, y.serial ≠ x) →
      exec (.releaseNode x db) s = .next (s.answered 0x45 .badIndex .empty)) ∧
    ∀ l e rs z, db.toNat ≤ 1 → s.atu.op = none → s.nodes = l ++ e :: rs → e.serial = x → (∀ y ∈ l ++ rs, y.serial ≠ x) → z = s.zones[e.zone] →
      (e.state ≠ .halted → exec (.releaseNode x db) s = .next (s.answered 0x45 .wrongState .empty)) ∧
      (e.state = .halted → db = 0#8 → exec (.releaseNode x db) s = .next (((s.answered 0x45 .ok (.released x .discard e.tally)).withAtu
        { s.atu with discarded := min (s.atu.discarded + e.tally) (2 ^ 48 - 1) }).withNodes
        (l ++ { e with tally := 0, tallySaturated := false, state := .active } :: rs))) ∧
      (e.state = .halted → db = 1#8 →
        (z.state = .unused → exec (.releaseNode x db) s = .next (s.answered 0x45 .wrongState .empty)) ∧
        (z.state = .armed ∨ z.state = .queued ∨ z.state = .settling →
          exec (.releaseNode x db) s = .next (s.answered 0x45 .busy .empty)) ∧
        (z.state = .opened → exec (.releaseNode x db) s = .next (((s.answered 0x45 .ok (.released x .toPool e.tally)).withZones
          (s.zones.set e.zone { z with openU := ⟨min (z.openU.value + e.tally * 1000) (2 ^ 48 - 1),
            z.openU.saturated || decide (2 ^ 48 - 1 < z.openU.value + e.tally * 1000) || e.tallySaturated⟩ })).withNodes
          (l ++ { e with tally := 0, tallySaturated := false, state := .active } :: rs))))) ∧
  (∀ (x : Serial) (s : State), s.canTake (.forgetNode x) = true →
    (s.atu.op ≠ none → exec (.forgetNode x) s = .next (s.answered 0x46 .notReady .empty)) ∧
    (s.atu.op = none → (∀ y ∈ s.nodes, y.serial ≠ x) → exec (.forgetNode x) s = .next (s.answered 0x46 .badIndex .empty)) ∧
    ∀ l e rs, s.atu.op = none → s.nodes = l ++ e :: rs → e.serial = x → (∀ y ∈ l ++ rs, y.serial ≠ x) →
      (e.state = .halted → exec (.forgetNode x) s = .next (s.answered 0x46 .wrongState .empty)) ∧
      (e.state ≠ .halted → exec (.forgetNode x) s = .next ((s.withAtu { s.atu with op := some (.removal x .forget) }).withLink { s.link with
        receiver := .processTaken 0x46
        framesTaken := if s.link.receiver = .hunt then inc32 s.link.framesTaken else s.link.framesTaken })))

/-- WRITE POINT, CLEAR POINT and READ POINT (R164 to R166). -/
def Obligations.PointRequests : Prop :=
  (∀ (ib : Byte) (x : Serial) (zb kb ab : Byte) (f : Word16) (s : State), s.canTake (.writePoint ib x zb kb ab f) = true →
    (63 < ib.toNat → exec (.writePoint ib x zb kb ab f) s = .next (s.answered 0x30 .badIndex .empty)) ∧
    ∀ i : PointNo, ib.toNat = i.val →
      (((15 < zb.toNat ∧ zb ≠ 0xFF#8) ∨ 2 < kb.toNat ∨ ab = 0#8 ∨ 127 < ab.toNat ∨ f = 0#16) →
        exec (.writePoint ib x zb kb ab f) s = .next (s.answered 0x30 .badValue .empty)) ∧
      ∀ z k a, optionalZoneOf zb = some z → kindOf kb = some k → accountOf ab = some a → a ≠ 0 → f ≠ 0#16 →
        ((∃ j : PointNo, j ≠ i ∧ s.points[j].valid = true ∧ s.points[j].serial = x ∧
            (z = none ∨ s.points[j].zoneFilter = none ∨ s.points[j].zoneFilter = z)) →
          exec (.writePoint ib x zb kb ab f) s = .next (s.answered 0x30 .conflict .empty)) ∧
        ((∀ j : PointNo, j ≠ i → s.points[j].valid = true → s.points[j].serial = x →
            z ≠ none ∧ s.points[j].zoneFilter ≠ none ∧ s.points[j].zoneFilter ≠ z) →
          exec (.writePoint ib x zb kb ab f) s = .next ((s.answered 0x30 .ok (.point i ⟨true, x, z, k, a, f.toNat⟩)).withPoints
            (s.points.set i ⟨true, x, z, k, a, f.toNat⟩)))) ∧
  (∀ (ib : Byte) (s : State), s.canTake (.clearPoint ib) = true →
    (63 < ib.toNat → exec (.clearPoint ib) s = .next (s.answered 0x31 .badIndex .empty)) ∧
    ∀ i : PointNo, ib.toNat = i.val →
      exec (.clearPoint ib) s = .next ((s.answered 0x31 .ok (.pointIndex i)).withPoints (s.points.set i { s.points[i] with valid := false }))) ∧
  (∀ (ib : Byte) (s : State), s.canTake (.readPoint ib) = true →
    (63 < ib.toNat → exec (.readPoint ib) s = .next (s.answered 0x32 .badIndex .empty)) ∧
    ∀ i : PointNo, ib.toNat = i.val → ∃ n nd, exec (.readPoint ib) s = .next (s.answered 0x32 .ok (.pointRecord s.points[i] n nd)) ∧
      n = s.points.toList.countP (·.valid) ∧ (s.points[i].valid = false → nd = none) ∧
      (s.points[i].valid = true → s.atu.op = none → nd = (s.nodes.find? fun y => y.serial == s.points[i].serial).map fun y => (y.state, y.zone)))

/-! ### Settlement and ledgers -/

/-- SEN_TAKE_ZONE, GATHER and RELEASE (R23, R26, R41, R46): the queue head is taken, the closed interval is gathered, the settlement ends. That the
queue head is taken at an event of its own (log 26) and that the whole closing half is cleared (log 22) are the model's readings. -/
def Obligations.TakeGatherRelease : Prop :=
  (∀ (s : State) (z : ZoneNo) (rest : List ZoneNo), s.mainRuns = true → s.sen.stage = .idle → s.queue = z :: rest →
    exec .senTakeZone s = .next (((s.withQueue rest).withZones (s.zones.set z { s.zones[z] with state := .settling })).withSen
      ⟨if s.zones[z].closing.number = s.records[z].number then .release else .gather, some z, .empty⟩)) ∧
  (∀ (s : State) (z : ZoneNo), s.mainRuns = true → s.sen.stage = .gather → s.sen.zone = some z → ∃ g : Gathered,
    exec .gather s = .next (s.withSen ⟨.fixed, some z, ⟨some g, none, none, none, none⟩⟩) ∧
    (∀ b : BandNo, g.p[b] = ((List.finRange 8).map fun c : ChannelNo =>
        if s.channels[c].zone = some z then s.channels[c].closing.bands[b].value else 0).sum +
      (match s.zones[z].closing.terms.energies with
        | some e => e[b]
        | none => 0)) ∧
    g.estimated = ((List.finRange 8).map fun c : ChannelNo =>
      if s.channels[c].zone = some z then s.channels[c].closing.estimated.value else 0).sum ∧
    g.members = s.zones[z].members.map (fun m => ⟨m.account, m.area, m.closingW.value⟩) ∧ g.u = s.zones[z].closing.u.value ∧
    g.standing = s.zones[z].closing.terms.standing ∧ g.number = s.zones[z].closing.number ∧ g.cause = s.zones[z].closing.cause ∧
    g.cycle = s.zones[z].closing.cycle ∧ g.mode = s.zones[z].mode ∧ g.fixedShare = s.zones[z].fixedShare ∧
    (g.inputSaturated = true ↔ (∃ m ∈ s.zones[z].members, m.closingW.saturated = true) ∨ s.zones[z].closing.u.saturated = true ∨
      ∃ c : ChannelNo, s.channels[c].zone = some z ∧
        (s.channels[c].closing.estimated.saturated = true ∨ ∃ b : BandNo, s.channels[c].closing.bands[b].saturated = true))) ∧
  (∀ (s : State) (z : ZoneNo), s.mainRuns = true → s.sen.stage = .release → s.sen.zone = some z → ∃ t, exec .release s = .next t ∧
    t = (((s.withZones (s.zones.set z { s.zones[z] with
        state := .opened, closing := .zero, members := s.zones[z].members.map fun m => { m with closingW := .zero } })).withChannels
      t.channels).withLink { s.link with flags := { s.link.flags with settled := s.link.flags.settled ||| 1#16 <<< z.val } }).withSen
      ⟨.idle, none, .empty⟩ ∧
    ∀ c : ChannelNo, t.channels[c] =
      if s.channels[c].zone = some z then { s.channels[c] with closing := .zero } else s.channels[c])

/-- FIXED, CONSUMPTION, AREA and STANDING (R27, R30 to R34): the exact fixed and consumption parts, and the pools, recipients and weights of each
division, without units, and without members. -/
def Obligations.DivisionStages : Prop :=
  (∀ (s : State) (z : ZoneNo) (g : Gathered), s.mainRuns = true → s.sen.stage = .fixed → s.sen.zone = some z →
    s.sen.scratch.gathered = some g → ∃ f : FixedParts,
      exec .fixed s = .next (s.withSen ⟨.consumption, some z, { s.sen.scratch with fixed := some f }⟩) ∧
      ∀ b : BandNo, f.f[b] = g.p[b] * g.fixedShare / 1000 ∧ f.c[b] = g.p[b] - f.f[b] ∧
        (g.fixedShare ≤ 1000 → f.f[b] + f.c[b] = g.p[b]) ∧ (g.fixedShare = 0 → f.f[b] = 0) ∧ (g.fixedShare = 1000 → f.c[b] = 0)) ∧
  (∀ (s : State) (z : ZoneNo) (g : Gathered) (f : FixedParts), s.mainRuns = true → s.sen.stage = .consumption → s.sen.zone = some z →
    s.sen.scratch.gathered = some g → s.sen.scratch.fixed = some f → ∃ k : ConsumptionParts,
      exec .consumption s = .next (s.withSen ⟨.area, some z, { s.sen.scratch with consumption := some k }⟩) ∧
      (k.allArea = true ↔ g.members ≠ [] ∧ (∀ m ∈ g.members, m.w = 0) ∧ g.u = 0) ∧
      ∀ b : BandNo,
        (g.members = [] → k.shares[b] = [] ∧ k.unattributed[b] = 0 ∧ k.g[b] = g.p[b]) ∧
        (g.members ≠ [] → (∀ m ∈ g.members, m.w = 0) → g.u = 0 →
          k.shares[b] = List.replicate g.members.length 0 ∧ k.unattributed[b] = 0 ∧ k.g[b] = g.p[b]) ∧
        (g.members ≠ [] → ((∃ m ∈ g.members, m.w ≠ 0) ∨ g.u ≠ 0) →
          k.shares[b] ++ [k.unattributed[b]] = apportion f.c[b] (g.members.map (·.w) ++ [g.u]) ∧
          k.g[b] = f.f[b] + k.unattributed[b])) ∧
  (∀ (s : State) (z : ZoneNo) (g : Gathered) (k : ConsumptionParts), s.mainRuns = true → s.sen.stage = .area → s.sen.zone = some z →
    s.sen.scratch.gathered = some g → s.sen.scratch.consumption = some k → ∃ a : Bands (List Nat),
      exec .area s = .next (s.withSen ⟨.standing, some z, { s.sen.scratch with area := some a }⟩) ∧
      ∀ b : BandNo, (g.members = [] → a[b] = []) ∧ (g.members ≠ [] → a[b] = apportion k.g[b] (g.members.map (·.area)))) ∧
  (∀ (s : State) (z : ZoneNo) (g : Gathered), s.mainRuns = true → s.sen.stage = .standing → s.sen.zone = some z →
    s.sen.scratch.gathered = some g → ∃ x : Option (List Nat),
      exec .standing s = .next (s.withSen ⟨.post, some z, { s.sen.scratch with standing := x }⟩) ∧
      (g.standing = none → x = none) ∧
      ∀ charge, g.standing = some charge →
        (g.members = [] → x = some []) ∧ (g.members ≠ [] → x = some (apportion charge (g.members.map (·.area)))))


/-- The apportion operation (R28, R29): with a weight above 0 the shares add up to the pool, each is the floor of its part or one more, a
weight of 0 gives 0, and the extra units go to the largest remainders, the earlier recipient first. -/
def Obligations.ApportionExact : Prop :=
  ∀ (pool : Nat) (ws : List Nat), 0 < ws.sum →
    (apportion pool ws).length = ws.length ∧ (apportion pool ws).sum = pool ∧
    (∀ i w x : Nat, ws[i]? = some w → (apportion pool ws)[i]? = some x →
      (x = pool * w / ws.sum ∨ x = pool * w / ws.sum + 1) ∧ (w = 0 → x = 0)) ∧
    ∀ i j u v y : Nat, ws[i]? = some u → ws[j]? = some v → (apportion pool ws)[j]? = some y → y = pool * v / ws.sum + 1 →
      (pool * v % ws.sum < pool * u % ws.sum ∨ (pool * v % ws.sum = pool * u % ws.sum ∧ i < j)) →
      (apportion pool ws)[i]? = some (pool * u / ws.sum + 1)

/-- Nothing is lost between GATHER and POST (R33): from a zone with members, the energies that FIXED, CONSUMPTION and AREA give them add up, in
every band, to the band's energy, and the standing shares to the charge (R34). -/
def Obligations.NothingLost : Prop :=
  ∀ (s t u v w : State) (z : ZoneNo) (g : Gathered) (f : FixedParts) (k : ConsumptionParts) (a : Bands (List Nat)) (b : BandNo),
    s.mainRuns = true → s.sen.stage = .fixed → s.sen.zone = some z → s.sen.scratch.gathered = some g → g.members ≠ [] →
    g.fixedShare ≤ 1000 → (∀ m ∈ g.members, 1 ≤ m.area) → exec .fixed s = .next t → exec .consumption t = .next u →
    exec .area u = .next v → exec .standing v = .next w →
    w.sen.scratch.fixed = some f → w.sen.scratch.consumption = some k → w.sen.scratch.area = some a →
    ((List.range g.members.length).map fun i => k.shares[b].getD i 0 + a[b].getD i 0).sum = g.p[b] ∧
    ∀ charge shares, g.standing = some charge → w.sen.scratch.standing = some shares → shares.sum = charge

/-- POST (R35 to R40): the postings to the ledgers of OPEN members, to the house for VACANT members or a memberless zone, the counts and flags,
the settlement record, and no other change. -/
def Obligations.Post : Prop :=
  ∀ (s : State) (z : ZoneNo) (g : Gathered) (f : FixedParts) (k : ConsumptionParts) (a : Bands (List Nat)) (e : Nat → BandNo → Nat)
      (st : Nat → Nat) (price : BandNo → Nat) (vacant : Nat → Bool) (hb : BandNo → Nat) (total hs item : Nat),
    s.mainRuns = true → s.sen.stage = .post → s.sen.zone = some z → s.sen.scratch.gathered = some g →
    s.sen.scratch.fixed = some f → s.sen.scratch.consumption = some k → s.sen.scratch.area = some a →
    g.members.Pairwise (fun x y => x.account < y.account) → (∀ m ∈ g.members, m.account ≠ 0) →
    (∀ i b, e i b = k.shares[b].getD i 0 + a[b].getD i 0) → (∀ i, st i = (s.sen.scratch.standing.getD []).getD i 0) →
    (∀ b : BandNo, price b = (s.prices.get g.mode)[b]) →
    (∀ i, vacant i = true ↔ ∃ m, g.members[i]? = some m ∧ s.accounts[m.account] ≠ .opened) →
    -- what reaches the house
    (∀ b : BandNo, hb b = if g.members = [] then g.p[b] else
      ((List.range g.members.length).map fun i => if vacant i then e i b else 0).sum) → total = hb 0 + hb 1 + hb 2 + hb 3 →
    hs = (if g.members = [] then g.standing.getD 0 else ((List.range g.members.length).map fun i => if vacant i then st i else 0).sum) →
    item = (if g.members = [] then s.house.fromMemberless else s.house.fromVacancies) →
    ∃ t r, exec .post s = .next t ∧
      t = (((s.withLedgers t.ledgers).withHouse t.house).withRecords (s.records.set z r)).withSen ⟨.release, some z, s.sen.scratch⟩ ∧
      -- the record
      r.number = g.number ∧ r.cause = g.cause ∧ r.cycle = g.cycle ∧ r.estimated = g.estimated ∧ r.standing = g.standing ∧
      r.memberCount = g.members.length ∧ r.allArea = k.allArea ∧ (r.noMembers = true ↔ g.members = []) ∧
      (r.saturated = true ↔ g.inputSaturated = true ∨
        (∃ i m, g.members[i]? = some m ∧ s.accounts[m.account] = .opened ∧ goesBeyond s.ledgers[m.account] g.mode (e i) price (st i)) ∨
        ((g.members = [] ∨ ∃ i, vacant i = true) ∧
          (goesBeyond s.ledgers[(0 : AccountNo)] g.mode hb price hs ∨ 2 ^ 48 - 1 < item + total))) ∧
      (∀ b : BandNo, r.bands[b] = ⟨g.p[b], f.f[b], f.c[b], k.unattributed[b], hb b⟩) ∧
      -- an OPEN member's own ledger
      (∀ i m, g.members[i]? = some m → s.accounts[m.account] = .opened →
        (∀ b : BandNo, (t.ledgers[m.account].unbilled.energy.get g.mode)[b] =
            min ((s.ledgers[m.account].unbilled.energy.get g.mode)[b] + e i b) (2 ^ 40 - 1) ∧
          (t.ledgers[m.account].unbilled.cost.get g.mode)[b] =
            min ((s.ledgers[m.account].unbilled.cost.get g.mode)[b] + e i b * price b) (2 ^ 64 - 1)) ∧
        (∀ x, x ≠ g.mode → t.ledgers[m.account].unbilled.energy.get x = s.ledgers[m.account].unbilled.energy.get x ∧
          t.ledgers[m.account].unbilled.cost.get x = s.ledgers[m.account].unbilled.cost.get x ∧
          t.ledgers[m.account].lifetime.energy.get x = s.ledgers[m.account].lifetime.energy.get x ∧
          t.ledgers[m.account].lifetime.saturated.get x = s.ledgers[m.account].lifetime.saturated.get x) ∧
        t.ledgers[m.account].unbilled.standing = min (s.ledgers[m.account].unbilled.standing + st i) (2 ^ 64 - 1) ∧
        t.ledgers[m.account].unbilled.count = min (s.ledgers[m.account].unbilled.count + 1) 65535 ∧
        (t.ledgers[m.account].unbilled.estimated = true ↔ s.ledgers[m.account].unbilled.estimated = true ∨ 0 < g.estimated) ∧
        (t.ledgers[m.account].unbilled.saturated = true ↔ s.ledgers[m.account].unbilled.saturated = true ∨ g.inputSaturated = true ∨
          goesBeyond s.ledgers[m.account] g.mode (e i) price (st i)) ∧
        (t.ledgers[m.account].lifetime.saturated.get g.mode = true ↔ s.ledgers[m.account].lifetime.saturated.get g.mode = true ∨
          2 ^ 48 - 1 < s.ledgers[m.account].lifetime.energy.get g.mode + (e i 0 + e i 1 + e i 2 + e i 3)) ∧
        t.ledgers[m.account].lifetime.energy.get g.mode =
          min (s.ledgers[m.account].lifetime.energy.get g.mode + (e i 0 + e i 1 + e i 2 + e i 3)) (2 ^ 48 - 1) ∧
        t.ledgers[m.account].number = s.ledgers[m.account].number ∧ t.ledgers[m.account].last = s.ledgers[m.account].last) ∧
      -- every other ledger but the house's
      (∀ x : AccountNo, x ≠ 0 → (∀ m ∈ g.members, m.account = x → s.accounts[x] ≠ .opened) → t.ledgers[x] = s.ledgers[x]) ∧
      -- the house's ledger
      (g.members ≠ [] → (∀ i, vacant i = false) → t.ledgers[(0 : AccountNo)] = s.ledgers[(0 : AccountNo)] ∧ t.house = s.house) ∧
      (g.members = [] ∨ (∃ i, vacant i = true) →
        (∀ b : BandNo, (t.ledgers[(0 : AccountNo)].unbilled.energy.get g.mode)[b] =
            min ((s.ledgers[(0 : AccountNo)].unbilled.energy.get g.mode)[b] + hb b) (2 ^ 40 - 1) ∧
          (t.ledgers[(0 : AccountNo)].unbilled.cost.get g.mode)[b] =
            min ((s.ledgers[(0 : AccountNo)].unbilled.cost.get g.mode)[b] + hb b * price b) (2 ^ 64 - 1)) ∧
        (∀ x, x ≠ g.mode →
          t.ledgers[(0 : AccountNo)].unbilled.energy.get x = s.ledgers[(0 : AccountNo)].unbilled.energy.get x ∧
          t.ledgers[(0 : AccountNo)].unbilled.cost.get x = s.ledgers[(0 : AccountNo)].unbilled.cost.get x ∧
          t.ledgers[(0 : AccountNo)].lifetime.energy.get x = s.ledgers[(0 : AccountNo)].lifetime.energy.get x ∧
          t.ledgers[(0 : AccountNo)].lifetime.saturated.get x = s.ledgers[(0 : AccountNo)].lifetime.saturated.get x) ∧
        t.ledgers[(0 : AccountNo)].unbilled.standing = min (s.ledgers[(0 : AccountNo)].unbilled.standing + hs) (2 ^ 64 - 1) ∧
        t.ledgers[(0 : AccountNo)].unbilled.count = min (s.ledgers[(0 : AccountNo)].unbilled.count + 1) 65535 ∧
        (t.ledgers[(0 : AccountNo)].unbilled.estimated = true ↔
          s.ledgers[(0 : AccountNo)].unbilled.estimated = true ∨ 0 < g.estimated) ∧
        (t.ledgers[(0 : AccountNo)].unbilled.saturated = true ↔ s.ledgers[(0 : AccountNo)].unbilled.saturated = true ∨
          g.inputSaturated = true ∨ goesBeyond s.ledgers[(0 : AccountNo)] g.mode hb price hs ∨ 2 ^ 48 - 1 < item + total) ∧
        t.ledgers[(0 : AccountNo)].lifetime.energy.get g.mode =
          min (s.ledgers[(0 : AccountNo)].lifetime.energy.get g.mode + total) (2 ^ 48 - 1) ∧
        (t.ledgers[(0 : AccountNo)].lifetime.saturated.get g.mode = true ↔
          s.ledgers[(0 : AccountNo)].lifetime.saturated.get g.mode = true ∨
          2 ^ 48 - 1 < s.ledgers[(0 : AccountNo)].lifetime.energy.get g.mode + total) ∧
        t.ledgers[(0 : AccountNo)].number = s.ledgers[(0 : AccountNo)].number ∧
        t.ledgers[(0 : AccountNo)].last = s.ledgers[(0 : AccountNo)].last ∧
        (g.members = [] → t.house = { s.house with fromMemberless := min (item + total) (2 ^ 48 - 1) }) ∧
        (g.members ≠ [] → t.house = { s.house with fromVacancies := min (item + total) (2 ^ 48 - 1) }))

/-- READ SETTLEMENT, PEEK STATEMENT and COLLECT STATEMENT (R42, R53 to R57). -/
def Obligations.StatementRequests : Prop :=
  (∀ (zb : Byte) (s : State), s.canTake (.readSettlement zb) = true →
    (15 < zb.toNat → exec (.readSettlement zb) s = .next (s.answered 0x51 .badIndex .empty)) ∧
    ∀ z : ZoneNo, zb.toNat = z.val → ∃ r : SettlementReply, exec (.readSettlement zb) s = .next (s.answered 0x51 .ok (.settlement r)) ∧
      r.state = s.zones[z].state ∧ r.number = s.zones[z].number ∧ r.queueLength = s.queue.length ∧ r.record = s.records[z] ∧
      (∀ l rest, s.zones[z].state = .queued → s.queue = l ++ z :: rest → z ∉ l → r.position = some l.length) ∧
      (s.zones[z].state ≠ .queued → r.position = none) ∧ (s.zones[z].state = .settling → r.stage = some s.sen.stage) ∧
      (s.zones[z].state ≠ .settling → r.stage = none)) ∧
  (∀ (ab kb : Byte) (s : State), s.canTake (.peekStatement ab kb) = true →
    (127 < ab.toNat → exec (.peekStatement ab kb) s = .next (s.answered 0x52 .badIndex .empty)) ∧
    ∀ a : AccountNo, ab.toNat = a.val →
      (1 < kb.toNat → exec (.peekStatement ab kb) s = .next (s.answered 0x52 .badValue .empty)) ∧
      (kb = 1#8 → exec (.peekStatement ab kb) s = .next (s.answered 0x52 .ok (.statement s.ledgers[a].last))) ∧
      (kb = 0#8 → ∃ pending : Bool, exec (.peekStatement ab kb) s = .next (s.answered 0x52 .ok (.statement
          ⟨a, s.accounts[a], .current, s.ledgers[a].number, pending, s.ledgers[a].unbilled, s.ledgers[a].lifetime,
            if a = 0 then s.house else ⟨0, 0⟩⟩)) ∧
        (pending = true ↔ ∃ z : ZoneNo, (s.zones[z].state = .queued ∨ s.zones[z].state = .settling) ∧
          (a = 0 ∨ ∃ m ∈ s.zones[z].members, m.account = a)))) ∧
  (∀ (ab : Byte) (s : State), s.canTake (.collectStatement ab) = true →
    (127 < ab.toNat → exec (.collectStatement ab) s = .next (s.answered 0x53 .badIndex .empty)) ∧
    ∀ a : AccountNo, ab.toNat = a.val →
      ((∃ z : ZoneNo, (s.zones[z].state = .queued ∨ s.zones[z].state = .settling) ∧ (a = 0 ∨ ∃ m ∈ s.zones[z].members, m.account = a)) →
        exec (.collectStatement ab) s = .next (s.answered 0x53 .notReady .empty)) ∧
      ((∀ z : ZoneNo, s.zones[z].state = .queued ∨ s.zones[z].state = .settling → a ≠ 0 ∧ ∀ m ∈ s.zones[z].members, m.account ≠ a) →
        ∀ x : Statement, x = ⟨a, s.accounts[a], .current, s.ledgers[a].number + 1, false, s.ledgers[a].unbilled, s.ledgers[a].lifetime,
          if a = 0 then s.house else ⟨0, 0⟩⟩ →
        exec (.collectStatement ab) s = .next (((s.answered 0x53 .ok (.statement x)).withLedgers (s.ledgers.set a { s.ledgers[a] with
          unbilled := .zero, number := s.ledgers[a].number + 1, last := { x with kind := .lastCollected } })).withHouse
          (if a = 0 then ⟨0, 0⟩ else s.house))))

/-! ### Supplies, the RESET pin and starts -/

/-- The stop of the main domain, by the loss of main supply with a usable backup or by the RESET pin (R17, R45, R137, R147, R150, R187, R190,
R194): what each block discards, the bus-stop closes, the settling zone at the queue's head, and what nothing touches. The mark of a lost
sweep is the model's own (log 27), and the operand says whether the backup is usable (log 24). -/
def Obligations.MainDomainStops : Prop :=
  ∀ (i : Instr) (s : State) (v : Ssv) (fl : EventFlags), s.mainRuns = true → s.ssv.mainPresent = true → s.ssv.qualifying = false →
    (i = .mainSupplyLoss true ∧ v = { s.ssv with supply := .backup, domain := .off, mainPresent := false } ∧
        fl = { s.link.flags with supplyBackup := true }) ∨
      (i = .resetAssert ∧ s.ssv.resetAsserted = false ∧ v = { s.ssv with domain := .held, resetAsserted := true } ∧ fl = s.link.flags) →
    ∃ t u, exec i s = .next t ∧ t.ssv = v ∧ t.besideSupply = s.besideSupply ∧
      t.link = { s.link with receiver := .discard, burst := false, flags := fl } ∧ t.tcv = { s.tcv with round := none } ∧
      t.atu = { s.atu with op := none, handed := none } ∧ t.sen = ⟨.idle, none, .empty⟩ ∧
      t.abm = { s.abm with
        bus := if s.abm.bus = .stopping then .off else s.abm.bus
        cycle := none, activity := .none, sweep := ⟨false, []⟩, sweepLost := s.abm.sweepLost || s.abm.sweep.active } ∧
      (s.abm.bus = .off → u = s) ∧ (s.abm.bus ≠ .off → closesArmed .busStop s.abm.cycleNumber s u) ∧ t.channels = u.channels ∧
      (s.sen.zone = none → t.zones = u.zones ∧ t.queue = u.queue) ∧
      ∀ z, s.sen.zone = some z → t.zones = u.zones.set z { u.zones[z] with state := .queued } ∧ t.queue = z :: u.queue

/-- The supplies and the RESET pin where no block stops or starts (R191 to R195). The contents kept while nothing is powered, which no
one can observe, are the model's choice (log 15), that a loss of a supply that is absent and a rise of one that is present change nothing is too
(log 2), the operand says whether the backup is usable (log 24), and RETENTION_LOSS with main supply above its threshold is log 25. That a loss of all
power and RETENTION_LOSS clear the mark that the backup domain is powered, and that MAIN_SUPPLY_RISE leaves it as it was until the qualification
completes, is the model's choice (log 31). A loss of
main supply with a usable backup while the part is held in reset or in a cold start enters BACKUP with nothing more to discard (R194, R196). -/
def Obligations.SupplyEvents : Prop :=
  ∀ s : State,
    (∀ usable, s.ssv.mainPresent = false → exec (.mainSupplyLoss usable) s = .next s) ∧
    (s.ssv.mainPresent = true → s.ssv.qualifying = true →
      exec (.mainSupplyLoss true) s = .next (s.withSsv { s.ssv with mainPresent := false, qualifying := false })) ∧
    (s.ssv.mainPresent = true → s.ssv.qualifying = false → s.ssv.domain = .held ∨ s.ssv.domain = .coldStart → s.Quiescent → s.BusSound →
      exec (.mainSupplyLoss true) s = .next ((s.withSsv { s.ssv with supply := .backup, domain := .off, mainPresent := false }).withLink
        { s.link with flags := { s.link.flags with supplyBackup := true } })) ∧
    (s.ssv.mainPresent = true → ∃ t, exec (.mainSupplyLoss false) s = .next t ∧ t.besideSupply = s.besideSupply ∧
      t.ssv = { s.ssv with domain := .off, mainPresent := false, qualifying := false, markerValid := false, powered := false }) ∧
    (s.ssv.mainPresent = false →
      exec .mainSupplyRise s = .next (s.withSsv { s.ssv with mainPresent := true, qualifying := true })) ∧
    (s.ssv.mainPresent = true → exec .mainSupplyRise s = .next s ∧ exec .retentionLoss s = .next s) ∧
    (s.ssv.mainPresent = false → exec .retentionLoss s = .next (s.withSsv { s.ssv with markerValid := false, powered := false })) ∧
    (s.ssv.qualifying = true → s.ssv.mainPresent = true → s.ssv.resetAsserted = true → exec .qualificationComplete s =
      .next (s.withSsv { s.ssv with qualifying := false, supply := .main, powered := true, domain := .held })) ∧
    (s.ssv.domain = .off → s.ssv.resetAsserted = false →
      exec .resetAssert s = .next (s.withSsv { s.ssv with resetAsserted := true })) ∧
    (s.ssv.domain = .coldStart → s.ssv.resetAsserted = false → exec .resetAssert s =
      .next (s.withSsv { s.ssv with domain := .held, markerValid := false, resetAsserted := true })) ∧
    (s.ssv.domain = .off → s.ssv.resetAsserted = true →
      exec .resetRelease s = .next (s.withSsv { s.ssv with resetAsserted := false }))

/-- A start, at the end of a qualification with the pin released or at the release of the pin (R192 to R194, R196): warm when the marker is
valid, with what each block takes up; else cold, with every block at its cold-start values from the beginning (the model's choice, log 14). The
mark of a lost sweep that the warm start takes up is the model's own (log 27), and the count toward the automatic sweep at its beacon is log 34. -/
def Obligations.Starts : Prop :=
  ∀ (i : Instr) (s : State) (v : Ssv),
    (i = .qualificationComplete ∧ s.ssv.qualifying = true ∧ s.ssv.mainPresent = true ∧ s.ssv.resetAsserted = false ∧
        v = { s.ssv with qualifying := false, supply := .main, powered := true }) ∨
      (i = .resetRelease ∧ s.ssv.resetAsserted = true ∧ s.ssv.domain = .held ∧ v = { s.ssv with resetAsserted := false }) →
    (s.ssv.markerValid = false → exec i s = .next { State.reset with
      link := Link.cold, ssv := { v with markerValid := false, domain := .coldStart }, freeUses := s.freeUses, pending := s.pending }) ∧
    (s.ssv.markerValid = true → s.abm.cycle = none → ∃ t, exec i s = .next t ∧ t.ssv = { v with domain := .running } ∧
      t.besideSupply = s.besideSupply ∧ t.sen = s.sen ∧ t.atu = s.atu ∧
      t.link = { s.link with
        receiver := .discard, burst := false, lastStart := .warm, startCount := min (s.link.startCount + 1) 65535
        flags := { s.link.flags with supplyMain := true, sweepDone := s.link.flags.sweepDone || s.abm.sweepLost } } ∧
      ((∀ c : ChannelNo, s.channels[c].state = .disabled) → t.tcv = { s.tcv with round := none }) ∧
      (∀ scan, (∃ c : ChannelNo, s.channels[c].state ≠ .disabled) → isScanSet s scan → t.tcv = { s.tcv with
        roundNumber := s.tcv.roundNumber + 1, round := some ⟨.reference, scan, s.tcv.gateLength, none, false, none⟩ }) ∧
      ∀ a : Abm, a = { s.abm with
          rotation := 0, lastSweep := if s.abm.sweepLost then .abortedStop else s.abm.lastSweep, sweepLost := false } →
        (s.abm.bus ≠ .running → t.abm = a ∧ t.zones = s.zones ∧ t.channels = s.channels ∧ t.queue = s.queue) ∧
        (s.abm.bus = .running → t.abm.rotation = 0 ∧ t.abm.totals = s.abm.totals ∧
          cycleBegins (((s.withSsv t.ssv).withTcv t.tcv).withAbm a) t))

/-! ### Invariants -/

/-- Every step keeps the queue, the zone states and the SEN's zone in agreement (R22 to R24). -/
def Obligations.QueueStaysSound : Prop := ∀ s t : State, s.QueueSound → step s = .next t → t.QueueSound

/-- Every step keeps the Node Table ordered, within its capacity and free of double serials, with quarantine tallies in HALTED entries only
(R148, R150, R162). -/
def Obligations.TableStaysSound : Prop :=
  ∀ s t : State, s.TableSound → step s = .next t → t.TableSound ∧ (s.QuarantineSound → t.QuarantineSound)

/-- Every step keeps the rules for accounts, member lists and points (R1, R11, R164), empty closing halves outside a settlement (R13, R81),
and the rules for channels and inputs (R65, R77, R87, R92). -/
def Obligations.RecordsStaySound : Prop :=
  ∀ s t : State, step s = .next t →
    (s.AccountsSound → t.AccountsSound) ∧ (s.MembersSound → t.MembersSound) ∧ (s.PointsSound → t.PointsSound) ∧
      (s.ClosingSound → t.ClosingSound) ∧ (s.CarryBelow → t.CarryBelow) ∧ (s.InputsFollow → t.InputsFollow) ∧
      (s.StatesMirror → t.StatesMirror) ∧ (s.HandoversFollow → t.HandoversFollow)


/-- Every step keeps what the supply state, marker and pin allow, and a stopped main domain free of working state (R188 to R196), and with them
the sweep stack within its 32 ranges, an OFF bus without work, and no zone ARMED without a bus to close it (R15, R17, R123, R125, R138, R143,
R147). -/
def Obligations.SupplyStaysSound : Prop :=
  ∀ s t : State, s.SupplySound → step s = .next t →
    t.SupplySound ∧ (s.Quiescent → t.Quiescent ∧ (s.BusSound → t.BusSound))

/-- The state after reset has every invariant (a run is judged from reset by the statements that each step keeps them). -/
def Obligations.InvariantsAtReset : Prop :=
  State.reset.QueueSound ∧ State.reset.TableSound ∧ State.reset.QuarantineSound ∧ State.reset.AccountsSound ∧
    State.reset.MembersSound ∧ State.reset.PointsSound ∧ State.reset.ClosingSound ∧ State.reset.CarryBelow ∧
    State.reset.InputsFollow ∧ State.reset.StatesMirror ∧ State.reset.HandoversFollow ∧ State.reset.SupplySound ∧ State.reset.Quiescent ∧
    State.reset.BusSound
end

