-- ==== Sys2Proof/Laws/State.lean ====
section
/-! SUPPORT. One lemma per field per setter of State, true by rfl. -/

namespace Sys2Proof.Machine

variable (s : State)

@[simp] theorem State.withLink_link (v : Link) : (s.withLink v).link = v := rfl
@[simp] theorem State.withLink_ssv (v : Link) : (s.withLink v).ssv = s.ssv := rfl
@[simp] theorem State.withLink_accounts (v : Link) : (s.withLink v).accounts = s.accounts := rfl
@[simp] theorem State.withLink_zones (v : Link) : (s.withLink v).zones = s.zones := rfl
@[simp] theorem State.withLink_prices (v : Link) : (s.withLink v).prices = s.prices := rfl
@[simp] theorem State.withLink_band (v : Link) : (s.withLink v).band = s.band := rfl
@[simp] theorem State.withLink_queue (v : Link) : (s.withLink v).queue = s.queue := rfl
@[simp] theorem State.withLink_records (v : Link) : (s.withLink v).records = s.records := rfl
@[simp] theorem State.withLink_sen (v : Link) : (s.withLink v).sen = s.sen := rfl
@[simp] theorem State.withLink_ledgers (v : Link) : (s.withLink v).ledgers = s.ledgers := rfl
@[simp] theorem State.withLink_house (v : Link) : (s.withLink v).house = s.house := rfl
@[simp] theorem State.withLink_channels (v : Link) : (s.withLink v).channels = s.channels := rfl
@[simp] theorem State.withLink_inputs (v : Link) : (s.withLink v).inputs = s.inputs := rfl
@[simp] theorem State.withLink_tcv (v : Link) : (s.withLink v).tcv = s.tcv := rfl
@[simp] theorem State.withLink_abm (v : Link) : (s.withLink v).abm = s.abm := rfl
@[simp] theorem State.withLink_nodes (v : Link) : (s.withLink v).nodes = s.nodes := rfl
@[simp] theorem State.withLink_points (v : Link) : (s.withLink v).points = s.points := rfl
@[simp] theorem State.withLink_atu (v : Link) : (s.withLink v).atu = s.atu := rfl
@[simp] theorem State.withLink_freeUses (v : Link) : (s.withLink v).freeUses = s.freeUses := rfl
@[simp] theorem State.withLink_pending (v : Link) : (s.withLink v).pending = s.pending := rfl
@[simp] theorem State.withSsv_link (v : Ssv) : (s.withSsv v).link = s.link := rfl
@[simp] theorem State.withSsv_ssv (v : Ssv) : (s.withSsv v).ssv = v := rfl
@[simp] theorem State.withSsv_accounts (v : Ssv) : (s.withSsv v).accounts = s.accounts := rfl
@[simp] theorem State.withSsv_zones (v : Ssv) : (s.withSsv v).zones = s.zones := rfl
@[simp] theorem State.withSsv_prices (v : Ssv) : (s.withSsv v).prices = s.prices := rfl
@[simp] theorem State.withSsv_band (v : Ssv) : (s.withSsv v).band = s.band := rfl
@[simp] theorem State.withSsv_queue (v : Ssv) : (s.withSsv v).queue = s.queue := rfl
@[simp] theorem State.withSsv_records (v : Ssv) : (s.withSsv v).records = s.records := rfl
@[simp] theorem State.withSsv_sen (v : Ssv) : (s.withSsv v).sen = s.sen := rfl
@[simp] theorem State.withSsv_ledgers (v : Ssv) : (s.withSsv v).ledgers = s.ledgers := rfl
@[simp] theorem State.withSsv_house (v : Ssv) : (s.withSsv v).house = s.house := rfl
@[simp] theorem State.withSsv_channels (v : Ssv) : (s.withSsv v).channels = s.channels := rfl
@[simp] theorem State.withSsv_inputs (v : Ssv) : (s.withSsv v).inputs = s.inputs := rfl
@[simp] theorem State.withSsv_tcv (v : Ssv) : (s.withSsv v).tcv = s.tcv := rfl
@[simp] theorem State.withSsv_abm (v : Ssv) : (s.withSsv v).abm = s.abm := rfl
@[simp] theorem State.withSsv_nodes (v : Ssv) : (s.withSsv v).nodes = s.nodes := rfl
@[simp] theorem State.withSsv_points (v : Ssv) : (s.withSsv v).points = s.points := rfl
@[simp] theorem State.withSsv_atu (v : Ssv) : (s.withSsv v).atu = s.atu := rfl
@[simp] theorem State.withSsv_freeUses (v : Ssv) : (s.withSsv v).freeUses = s.freeUses := rfl
@[simp] theorem State.withSsv_pending (v : Ssv) : (s.withSsv v).pending = s.pending := rfl
@[simp] theorem State.withAccounts_link (v : Vector AccountState 128) : (s.withAccounts v).link = s.link := rfl
@[simp] theorem State.withAccounts_ssv (v : Vector AccountState 128) : (s.withAccounts v).ssv = s.ssv := rfl
@[simp] theorem State.withAccounts_accounts (v : Vector AccountState 128) : (s.withAccounts v).accounts = v := rfl
@[simp] theorem State.withAccounts_zones (v : Vector AccountState 128) : (s.withAccounts v).zones = s.zones := rfl
@[simp] theorem State.withAccounts_prices (v : Vector AccountState 128) : (s.withAccounts v).prices = s.prices := rfl
@[simp] theorem State.withAccounts_band (v : Vector AccountState 128) : (s.withAccounts v).band = s.band := rfl
@[simp] theorem State.withAccounts_queue (v : Vector AccountState 128) : (s.withAccounts v).queue = s.queue := rfl
@[simp] theorem State.withAccounts_records (v : Vector AccountState 128) : (s.withAccounts v).records = s.records := rfl
@[simp] theorem State.withAccounts_sen (v : Vector AccountState 128) : (s.withAccounts v).sen = s.sen := rfl
@[simp] theorem State.withAccounts_ledgers (v : Vector AccountState 128) : (s.withAccounts v).ledgers = s.ledgers := rfl
@[simp] theorem State.withAccounts_house (v : Vector AccountState 128) : (s.withAccounts v).house = s.house := rfl
@[simp] theorem State.withAccounts_channels (v : Vector AccountState 128) : (s.withAccounts v).channels = s.channels := rfl
@[simp] theorem State.withAccounts_inputs (v : Vector AccountState 128) : (s.withAccounts v).inputs = s.inputs := rfl
@[simp] theorem State.withAccounts_tcv (v : Vector AccountState 128) : (s.withAccounts v).tcv = s.tcv := rfl
@[simp] theorem State.withAccounts_abm (v : Vector AccountState 128) : (s.withAccounts v).abm = s.abm := rfl
@[simp] theorem State.withAccounts_nodes (v : Vector AccountState 128) : (s.withAccounts v).nodes = s.nodes := rfl
@[simp] theorem State.withAccounts_points (v : Vector AccountState 128) : (s.withAccounts v).points = s.points := rfl
@[simp] theorem State.withAccounts_atu (v : Vector AccountState 128) : (s.withAccounts v).atu = s.atu := rfl
@[simp] theorem State.withAccounts_freeUses (v : Vector AccountState 128) : (s.withAccounts v).freeUses = s.freeUses := rfl
@[simp] theorem State.withAccounts_pending (v : Vector AccountState 128) : (s.withAccounts v).pending = s.pending := rfl
@[simp] theorem State.withZones_link (v : Vector Zone 16) : (s.withZones v).link = s.link := rfl
@[simp] theorem State.withZones_ssv (v : Vector Zone 16) : (s.withZones v).ssv = s.ssv := rfl
@[simp] theorem State.withZones_accounts (v : Vector Zone 16) : (s.withZones v).accounts = s.accounts := rfl
@[simp] theorem State.withZones_zones (v : Vector Zone 16) : (s.withZones v).zones = v := rfl
@[simp] theorem State.withZones_prices (v : Vector Zone 16) : (s.withZones v).prices = s.prices := rfl
@[simp] theorem State.withZones_band (v : Vector Zone 16) : (s.withZones v).band = s.band := rfl
@[simp] theorem State.withZones_queue (v : Vector Zone 16) : (s.withZones v).queue = s.queue := rfl
@[simp] theorem State.withZones_records (v : Vector Zone 16) : (s.withZones v).records = s.records := rfl
@[simp] theorem State.withZones_sen (v : Vector Zone 16) : (s.withZones v).sen = s.sen := rfl
@[simp] theorem State.withZones_ledgers (v : Vector Zone 16) : (s.withZones v).ledgers = s.ledgers := rfl
@[simp] theorem State.withZones_house (v : Vector Zone 16) : (s.withZones v).house = s.house := rfl
@[simp] theorem State.withZones_channels (v : Vector Zone 16) : (s.withZones v).channels = s.channels := rfl
@[simp] theorem State.withZones_inputs (v : Vector Zone 16) : (s.withZones v).inputs = s.inputs := rfl
@[simp] theorem State.withZones_tcv (v : Vector Zone 16) : (s.withZones v).tcv = s.tcv := rfl
@[simp] theorem State.withZones_abm (v : Vector Zone 16) : (s.withZones v).abm = s.abm := rfl
@[simp] theorem State.withZones_nodes (v : Vector Zone 16) : (s.withZones v).nodes = s.nodes := rfl
@[simp] theorem State.withZones_points (v : Vector Zone 16) : (s.withZones v).points = s.points := rfl
@[simp] theorem State.withZones_atu (v : Vector Zone 16) : (s.withZones v).atu = s.atu := rfl
@[simp] theorem State.withZones_freeUses (v : Vector Zone 16) : (s.withZones v).freeUses = s.freeUses := rfl
@[simp] theorem State.withZones_pending (v : Vector Zone 16) : (s.withZones v).pending = s.pending := rfl
@[simp] theorem State.withPrices_link (v : ByMode (Bands Nat)) : (s.withPrices v).link = s.link := rfl
@[simp] theorem State.withPrices_ssv (v : ByMode (Bands Nat)) : (s.withPrices v).ssv = s.ssv := rfl
@[simp] theorem State.withPrices_accounts (v : ByMode (Bands Nat)) : (s.withPrices v).accounts = s.accounts := rfl
@[simp] theorem State.withPrices_zones (v : ByMode (Bands Nat)) : (s.withPrices v).zones = s.zones := rfl
@[simp] theorem State.withPrices_prices (v : ByMode (Bands Nat)) : (s.withPrices v).prices = v := rfl
@[simp] theorem State.withPrices_band (v : ByMode (Bands Nat)) : (s.withPrices v).band = s.band := rfl
@[simp] theorem State.withPrices_queue (v : ByMode (Bands Nat)) : (s.withPrices v).queue = s.queue := rfl
@[simp] theorem State.withPrices_records (v : ByMode (Bands Nat)) : (s.withPrices v).records = s.records := rfl
@[simp] theorem State.withPrices_sen (v : ByMode (Bands Nat)) : (s.withPrices v).sen = s.sen := rfl
@[simp] theorem State.withPrices_ledgers (v : ByMode (Bands Nat)) : (s.withPrices v).ledgers = s.ledgers := rfl
@[simp] theorem State.withPrices_house (v : ByMode (Bands Nat)) : (s.withPrices v).house = s.house := rfl
@[simp] theorem State.withPrices_channels (v : ByMode (Bands Nat)) : (s.withPrices v).channels = s.channels := rfl
@[simp] theorem State.withPrices_inputs (v : ByMode (Bands Nat)) : (s.withPrices v).inputs = s.inputs := rfl
@[simp] theorem State.withPrices_tcv (v : ByMode (Bands Nat)) : (s.withPrices v).tcv = s.tcv := rfl
@[simp] theorem State.withPrices_abm (v : ByMode (Bands Nat)) : (s.withPrices v).abm = s.abm := rfl
@[simp] theorem State.withPrices_nodes (v : ByMode (Bands Nat)) : (s.withPrices v).nodes = s.nodes := rfl
@[simp] theorem State.withPrices_points (v : ByMode (Bands Nat)) : (s.withPrices v).points = s.points := rfl
@[simp] theorem State.withPrices_atu (v : ByMode (Bands Nat)) : (s.withPrices v).atu = s.atu := rfl
@[simp] theorem State.withPrices_freeUses (v : ByMode (Bands Nat)) : (s.withPrices v).freeUses = s.freeUses := rfl
@[simp] theorem State.withPrices_pending (v : ByMode (Bands Nat)) : (s.withPrices v).pending = s.pending := rfl
@[simp] theorem State.withBand_link (v : BandNo) : (s.withBand v).link = s.link := rfl
@[simp] theorem State.withBand_ssv (v : BandNo) : (s.withBand v).ssv = s.ssv := rfl
@[simp] theorem State.withBand_accounts (v : BandNo) : (s.withBand v).accounts = s.accounts := rfl
@[simp] theorem State.withBand_zones (v : BandNo) : (s.withBand v).zones = s.zones := rfl
@[simp] theorem State.withBand_prices (v : BandNo) : (s.withBand v).prices = s.prices := rfl
@[simp] theorem State.withBand_band (v : BandNo) : (s.withBand v).band = v := rfl
@[simp] theorem State.withBand_queue (v : BandNo) : (s.withBand v).queue = s.queue := rfl
@[simp] theorem State.withBand_records (v : BandNo) : (s.withBand v).records = s.records := rfl
@[simp] theorem State.withBand_sen (v : BandNo) : (s.withBand v).sen = s.sen := rfl
@[simp] theorem State.withBand_ledgers (v : BandNo) : (s.withBand v).ledgers = s.ledgers := rfl
@[simp] theorem State.withBand_house (v : BandNo) : (s.withBand v).house = s.house := rfl
@[simp] theorem State.withBand_channels (v : BandNo) : (s.withBand v).channels = s.channels := rfl
@[simp] theorem State.withBand_inputs (v : BandNo) : (s.withBand v).inputs = s.inputs := rfl
@[simp] theorem State.withBand_tcv (v : BandNo) : (s.withBand v).tcv = s.tcv := rfl
@[simp] theorem State.withBand_abm (v : BandNo) : (s.withBand v).abm = s.abm := rfl
@[simp] theorem State.withBand_nodes (v : BandNo) : (s.withBand v).nodes = s.nodes := rfl
@[simp] theorem State.withBand_points (v : BandNo) : (s.withBand v).points = s.points := rfl
@[simp] theorem State.withBand_atu (v : BandNo) : (s.withBand v).atu = s.atu := rfl
@[simp] theorem State.withBand_freeUses (v : BandNo) : (s.withBand v).freeUses = s.freeUses := rfl
@[simp] theorem State.withBand_pending (v : BandNo) : (s.withBand v).pending = s.pending := rfl
@[simp] theorem State.withQueue_link (v : List ZoneNo) : (s.withQueue v).link = s.link := rfl
@[simp] theorem State.withQueue_ssv (v : List ZoneNo) : (s.withQueue v).ssv = s.ssv := rfl
@[simp] theorem State.withQueue_accounts (v : List ZoneNo) : (s.withQueue v).accounts = s.accounts := rfl
@[simp] theorem State.withQueue_zones (v : List ZoneNo) : (s.withQueue v).zones = s.zones := rfl
@[simp] theorem State.withQueue_prices (v : List ZoneNo) : (s.withQueue v).prices = s.prices := rfl
@[simp] theorem State.withQueue_band (v : List ZoneNo) : (s.withQueue v).band = s.band := rfl
@[simp] theorem State.withQueue_queue (v : List ZoneNo) : (s.withQueue v).queue = v := rfl
@[simp] theorem State.withQueue_records (v : List ZoneNo) : (s.withQueue v).records = s.records := rfl
@[simp] theorem State.withQueue_sen (v : List ZoneNo) : (s.withQueue v).sen = s.sen := rfl
@[simp] theorem State.withQueue_ledgers (v : List ZoneNo) : (s.withQueue v).ledgers = s.ledgers := rfl
@[simp] theorem State.withQueue_house (v : List ZoneNo) : (s.withQueue v).house = s.house := rfl
@[simp] theorem State.withQueue_channels (v : List ZoneNo) : (s.withQueue v).channels = s.channels := rfl
@[simp] theorem State.withQueue_inputs (v : List ZoneNo) : (s.withQueue v).inputs = s.inputs := rfl
@[simp] theorem State.withQueue_tcv (v : List ZoneNo) : (s.withQueue v).tcv = s.tcv := rfl
@[simp] theorem State.withQueue_abm (v : List ZoneNo) : (s.withQueue v).abm = s.abm := rfl
@[simp] theorem State.withQueue_nodes (v : List ZoneNo) : (s.withQueue v).nodes = s.nodes := rfl
@[simp] theorem State.withQueue_points (v : List ZoneNo) : (s.withQueue v).points = s.points := rfl
@[simp] theorem State.withQueue_atu (v : List ZoneNo) : (s.withQueue v).atu = s.atu := rfl
@[simp] theorem State.withQueue_freeUses (v : List ZoneNo) : (s.withQueue v).freeUses = s.freeUses := rfl
@[simp] theorem State.withQueue_pending (v : List ZoneNo) : (s.withQueue v).pending = s.pending := rfl
@[simp] theorem State.withRecords_link (v : Vector SettlementRecord 16) : (s.withRecords v).link = s.link := rfl
@[simp] theorem State.withRecords_ssv (v : Vector SettlementRecord 16) : (s.withRecords v).ssv = s.ssv := rfl
@[simp] theorem State.withRecords_accounts (v : Vector SettlementRecord 16) : (s.withRecords v).accounts = s.accounts := rfl
@[simp] theorem State.withRecords_zones (v : Vector SettlementRecord 16) : (s.withRecords v).zones = s.zones := rfl
@[simp] theorem State.withRecords_prices (v : Vector SettlementRecord 16) : (s.withRecords v).prices = s.prices := rfl
@[simp] theorem State.withRecords_band (v : Vector SettlementRecord 16) : (s.withRecords v).band = s.band := rfl
@[simp] theorem State.withRecords_queue (v : Vector SettlementRecord 16) : (s.withRecords v).queue = s.queue := rfl
@[simp] theorem State.withRecords_records (v : Vector SettlementRecord 16) : (s.withRecords v).records = v := rfl
@[simp] theorem State.withRecords_sen (v : Vector SettlementRecord 16) : (s.withRecords v).sen = s.sen := rfl
@[simp] theorem State.withRecords_ledgers (v : Vector SettlementRecord 16) : (s.withRecords v).ledgers = s.ledgers := rfl
@[simp] theorem State.withRecords_house (v : Vector SettlementRecord 16) : (s.withRecords v).house = s.house := rfl
@[simp] theorem State.withRecords_channels (v : Vector SettlementRecord 16) : (s.withRecords v).channels = s.channels := rfl
@[simp] theorem State.withRecords_inputs (v : Vector SettlementRecord 16) : (s.withRecords v).inputs = s.inputs := rfl
@[simp] theorem State.withRecords_tcv (v : Vector SettlementRecord 16) : (s.withRecords v).tcv = s.tcv := rfl
@[simp] theorem State.withRecords_abm (v : Vector SettlementRecord 16) : (s.withRecords v).abm = s.abm := rfl
@[simp] theorem State.withRecords_nodes (v : Vector SettlementRecord 16) : (s.withRecords v).nodes = s.nodes := rfl
@[simp] theorem State.withRecords_points (v : Vector SettlementRecord 16) : (s.withRecords v).points = s.points := rfl
@[simp] theorem State.withRecords_atu (v : Vector SettlementRecord 16) : (s.withRecords v).atu = s.atu := rfl
@[simp] theorem State.withRecords_freeUses (v : Vector SettlementRecord 16) : (s.withRecords v).freeUses = s.freeUses := rfl
@[simp] theorem State.withRecords_pending (v : Vector SettlementRecord 16) : (s.withRecords v).pending = s.pending := rfl
@[simp] theorem State.withSen_link (v : Sen) : (s.withSen v).link = s.link := rfl
@[simp] theorem State.withSen_ssv (v : Sen) : (s.withSen v).ssv = s.ssv := rfl
@[simp] theorem State.withSen_accounts (v : Sen) : (s.withSen v).accounts = s.accounts := rfl
@[simp] theorem State.withSen_zones (v : Sen) : (s.withSen v).zones = s.zones := rfl
@[simp] theorem State.withSen_prices (v : Sen) : (s.withSen v).prices = s.prices := rfl
@[simp] theorem State.withSen_band (v : Sen) : (s.withSen v).band = s.band := rfl
@[simp] theorem State.withSen_queue (v : Sen) : (s.withSen v).queue = s.queue := rfl
@[simp] theorem State.withSen_records (v : Sen) : (s.withSen v).records = s.records := rfl
@[simp] theorem State.withSen_sen (v : Sen) : (s.withSen v).sen = v := rfl
@[simp] theorem State.withSen_ledgers (v : Sen) : (s.withSen v).ledgers = s.ledgers := rfl
@[simp] theorem State.withSen_house (v : Sen) : (s.withSen v).house = s.house := rfl
@[simp] theorem State.withSen_channels (v : Sen) : (s.withSen v).channels = s.channels := rfl
@[simp] theorem State.withSen_inputs (v : Sen) : (s.withSen v).inputs = s.inputs := rfl
@[simp] theorem State.withSen_tcv (v : Sen) : (s.withSen v).tcv = s.tcv := rfl
@[simp] theorem State.withSen_abm (v : Sen) : (s.withSen v).abm = s.abm := rfl
@[simp] theorem State.withSen_nodes (v : Sen) : (s.withSen v).nodes = s.nodes := rfl
@[simp] theorem State.withSen_points (v : Sen) : (s.withSen v).points = s.points := rfl
@[simp] theorem State.withSen_atu (v : Sen) : (s.withSen v).atu = s.atu := rfl
@[simp] theorem State.withSen_freeUses (v : Sen) : (s.withSen v).freeUses = s.freeUses := rfl
@[simp] theorem State.withSen_pending (v : Sen) : (s.withSen v).pending = s.pending := rfl
@[simp] theorem State.withLedgers_link (v : Vector Ledger 128) : (s.withLedgers v).link = s.link := rfl
@[simp] theorem State.withLedgers_ssv (v : Vector Ledger 128) : (s.withLedgers v).ssv = s.ssv := rfl
@[simp] theorem State.withLedgers_accounts (v : Vector Ledger 128) : (s.withLedgers v).accounts = s.accounts := rfl
@[simp] theorem State.withLedgers_zones (v : Vector Ledger 128) : (s.withLedgers v).zones = s.zones := rfl
@[simp] theorem State.withLedgers_prices (v : Vector Ledger 128) : (s.withLedgers v).prices = s.prices := rfl
@[simp] theorem State.withLedgers_band (v : Vector Ledger 128) : (s.withLedgers v).band = s.band := rfl
@[simp] theorem State.withLedgers_queue (v : Vector Ledger 128) : (s.withLedgers v).queue = s.queue := rfl
@[simp] theorem State.withLedgers_records (v : Vector Ledger 128) : (s.withLedgers v).records = s.records := rfl
@[simp] theorem State.withLedgers_sen (v : Vector Ledger 128) : (s.withLedgers v).sen = s.sen := rfl
@[simp] theorem State.withLedgers_ledgers (v : Vector Ledger 128) : (s.withLedgers v).ledgers = v := rfl
@[simp] theorem State.withLedgers_house (v : Vector Ledger 128) : (s.withLedgers v).house = s.house := rfl
@[simp] theorem State.withLedgers_channels (v : Vector Ledger 128) : (s.withLedgers v).channels = s.channels := rfl
@[simp] theorem State.withLedgers_inputs (v : Vector Ledger 128) : (s.withLedgers v).inputs = s.inputs := rfl
@[simp] theorem State.withLedgers_tcv (v : Vector Ledger 128) : (s.withLedgers v).tcv = s.tcv := rfl
@[simp] theorem State.withLedgers_abm (v : Vector Ledger 128) : (s.withLedgers v).abm = s.abm := rfl
@[simp] theorem State.withLedgers_nodes (v : Vector Ledger 128) : (s.withLedgers v).nodes = s.nodes := rfl
@[simp] theorem State.withLedgers_points (v : Vector Ledger 128) : (s.withLedgers v).points = s.points := rfl
@[simp] theorem State.withLedgers_atu (v : Vector Ledger 128) : (s.withLedgers v).atu = s.atu := rfl
@[simp] theorem State.withLedgers_freeUses (v : Vector Ledger 128) : (s.withLedgers v).freeUses = s.freeUses := rfl
@[simp] theorem State.withLedgers_pending (v : Vector Ledger 128) : (s.withLedgers v).pending = s.pending := rfl
@[simp] theorem State.withHouse_link (v : House) : (s.withHouse v).link = s.link := rfl
@[simp] theorem State.withHouse_ssv (v : House) : (s.withHouse v).ssv = s.ssv := rfl
@[simp] theorem State.withHouse_accounts (v : House) : (s.withHouse v).accounts = s.accounts := rfl
@[simp] theorem State.withHouse_zones (v : House) : (s.withHouse v).zones = s.zones := rfl
@[simp] theorem State.withHouse_prices (v : House) : (s.withHouse v).prices = s.prices := rfl
@[simp] theorem State.withHouse_band (v : House) : (s.withHouse v).band = s.band := rfl
@[simp] theorem State.withHouse_queue (v : House) : (s.withHouse v).queue = s.queue := rfl
@[simp] theorem State.withHouse_records (v : House) : (s.withHouse v).records = s.records := rfl
@[simp] theorem State.withHouse_sen (v : House) : (s.withHouse v).sen = s.sen := rfl
@[simp] theorem State.withHouse_ledgers (v : House) : (s.withHouse v).ledgers = s.ledgers := rfl
@[simp] theorem State.withHouse_house (v : House) : (s.withHouse v).house = v := rfl
@[simp] theorem State.withHouse_channels (v : House) : (s.withHouse v).channels = s.channels := rfl
@[simp] theorem State.withHouse_inputs (v : House) : (s.withHouse v).inputs = s.inputs := rfl
@[simp] theorem State.withHouse_tcv (v : House) : (s.withHouse v).tcv = s.tcv := rfl
@[simp] theorem State.withHouse_abm (v : House) : (s.withHouse v).abm = s.abm := rfl
@[simp] theorem State.withHouse_nodes (v : House) : (s.withHouse v).nodes = s.nodes := rfl
@[simp] theorem State.withHouse_points (v : House) : (s.withHouse v).points = s.points := rfl
@[simp] theorem State.withHouse_atu (v : House) : (s.withHouse v).atu = s.atu := rfl
@[simp] theorem State.withHouse_freeUses (v : House) : (s.withHouse v).freeUses = s.freeUses := rfl
@[simp] theorem State.withHouse_pending (v : House) : (s.withHouse v).pending = s.pending := rfl
@[simp] theorem State.withChannels_link (v : Vector Channel 8) : (s.withChannels v).link = s.link := rfl
@[simp] theorem State.withChannels_ssv (v : Vector Channel 8) : (s.withChannels v).ssv = s.ssv := rfl
@[simp] theorem State.withChannels_accounts (v : Vector Channel 8) : (s.withChannels v).accounts = s.accounts := rfl
@[simp] theorem State.withChannels_zones (v : Vector Channel 8) : (s.withChannels v).zones = s.zones := rfl
@[simp] theorem State.withChannels_prices (v : Vector Channel 8) : (s.withChannels v).prices = s.prices := rfl
@[simp] theorem State.withChannels_band (v : Vector Channel 8) : (s.withChannels v).band = s.band := rfl
@[simp] theorem State.withChannels_queue (v : Vector Channel 8) : (s.withChannels v).queue = s.queue := rfl
@[simp] theorem State.withChannels_records (v : Vector Channel 8) : (s.withChannels v).records = s.records := rfl
@[simp] theorem State.withChannels_sen (v : Vector Channel 8) : (s.withChannels v).sen = s.sen := rfl
@[simp] theorem State.withChannels_ledgers (v : Vector Channel 8) : (s.withChannels v).ledgers = s.ledgers := rfl
@[simp] theorem State.withChannels_house (v : Vector Channel 8) : (s.withChannels v).house = s.house := rfl
@[simp] theorem State.withChannels_channels (v : Vector Channel 8) : (s.withChannels v).channels = v := rfl
@[simp] theorem State.withChannels_inputs (v : Vector Channel 8) : (s.withChannels v).inputs = s.inputs := rfl
@[simp] theorem State.withChannels_tcv (v : Vector Channel 8) : (s.withChannels v).tcv = s.tcv := rfl
@[simp] theorem State.withChannels_abm (v : Vector Channel 8) : (s.withChannels v).abm = s.abm := rfl
@[simp] theorem State.withChannels_nodes (v : Vector Channel 8) : (s.withChannels v).nodes = s.nodes := rfl
@[simp] theorem State.withChannels_points (v : Vector Channel 8) : (s.withChannels v).points = s.points := rfl
@[simp] theorem State.withChannels_atu (v : Vector Channel 8) : (s.withChannels v).atu = s.atu := rfl
@[simp] theorem State.withChannels_freeUses (v : Vector Channel 8) : (s.withChannels v).freeUses = s.freeUses := rfl
@[simp] theorem State.withChannels_pending (v : Vector Channel 8) : (s.withChannels v).pending = s.pending := rfl
@[simp] theorem State.withInputs_link (v : Vector Input 8) : (s.withInputs v).link = s.link := rfl
@[simp] theorem State.withInputs_ssv (v : Vector Input 8) : (s.withInputs v).ssv = s.ssv := rfl
@[simp] theorem State.withInputs_accounts (v : Vector Input 8) : (s.withInputs v).accounts = s.accounts := rfl
@[simp] theorem State.withInputs_zones (v : Vector Input 8) : (s.withInputs v).zones = s.zones := rfl
@[simp] theorem State.withInputs_prices (v : Vector Input 8) : (s.withInputs v).prices = s.prices := rfl
@[simp] theorem State.withInputs_band (v : Vector Input 8) : (s.withInputs v).band = s.band := rfl
@[simp] theorem State.withInputs_queue (v : Vector Input 8) : (s.withInputs v).queue = s.queue := rfl
@[simp] theorem State.withInputs_records (v : Vector Input 8) : (s.withInputs v).records = s.records := rfl
@[simp] theorem State.withInputs_sen (v : Vector Input 8) : (s.withInputs v).sen = s.sen := rfl
@[simp] theorem State.withInputs_ledgers (v : Vector Input 8) : (s.withInputs v).ledgers = s.ledgers := rfl
@[simp] theorem State.withInputs_house (v : Vector Input 8) : (s.withInputs v).house = s.house := rfl
@[simp] theorem State.withInputs_channels (v : Vector Input 8) : (s.withInputs v).channels = s.channels := rfl
@[simp] theorem State.withInputs_inputs (v : Vector Input 8) : (s.withInputs v).inputs = v := rfl
@[simp] theorem State.withInputs_tcv (v : Vector Input 8) : (s.withInputs v).tcv = s.tcv := rfl
@[simp] theorem State.withInputs_abm (v : Vector Input 8) : (s.withInputs v).abm = s.abm := rfl
@[simp] theorem State.withInputs_nodes (v : Vector Input 8) : (s.withInputs v).nodes = s.nodes := rfl
@[simp] theorem State.withInputs_points (v : Vector Input 8) : (s.withInputs v).points = s.points := rfl
@[simp] theorem State.withInputs_atu (v : Vector Input 8) : (s.withInputs v).atu = s.atu := rfl
@[simp] theorem State.withInputs_freeUses (v : Vector Input 8) : (s.withInputs v).freeUses = s.freeUses := rfl
@[simp] theorem State.withInputs_pending (v : Vector Input 8) : (s.withInputs v).pending = s.pending := rfl
@[simp] theorem State.withTcv_link (v : Tcv) : (s.withTcv v).link = s.link := rfl
@[simp] theorem State.withTcv_ssv (v : Tcv) : (s.withTcv v).ssv = s.ssv := rfl
@[simp] theorem State.withTcv_accounts (v : Tcv) : (s.withTcv v).accounts = s.accounts := rfl
@[simp] theorem State.withTcv_zones (v : Tcv) : (s.withTcv v).zones = s.zones := rfl
@[simp] theorem State.withTcv_prices (v : Tcv) : (s.withTcv v).prices = s.prices := rfl
@[simp] theorem State.withTcv_band (v : Tcv) : (s.withTcv v).band = s.band := rfl
@[simp] theorem State.withTcv_queue (v : Tcv) : (s.withTcv v).queue = s.queue := rfl
@[simp] theorem State.withTcv_records (v : Tcv) : (s.withTcv v).records = s.records := rfl
@[simp] theorem State.withTcv_sen (v : Tcv) : (s.withTcv v).sen = s.sen := rfl
@[simp] theorem State.withTcv_ledgers (v : Tcv) : (s.withTcv v).ledgers = s.ledgers := rfl
@[simp] theorem State.withTcv_house (v : Tcv) : (s.withTcv v).house = s.house := rfl
@[simp] theorem State.withTcv_channels (v : Tcv) : (s.withTcv v).channels = s.channels := rfl
@[simp] theorem State.withTcv_inputs (v : Tcv) : (s.withTcv v).inputs = s.inputs := rfl
@[simp] theorem State.withTcv_tcv (v : Tcv) : (s.withTcv v).tcv = v := rfl
@[simp] theorem State.withTcv_abm (v : Tcv) : (s.withTcv v).abm = s.abm := rfl
@[simp] theorem State.withTcv_nodes (v : Tcv) : (s.withTcv v).nodes = s.nodes := rfl
@[simp] theorem State.withTcv_points (v : Tcv) : (s.withTcv v).points = s.points := rfl
@[simp] theorem State.withTcv_atu (v : Tcv) : (s.withTcv v).atu = s.atu := rfl
@[simp] theorem State.withTcv_freeUses (v : Tcv) : (s.withTcv v).freeUses = s.freeUses := rfl
@[simp] theorem State.withTcv_pending (v : Tcv) : (s.withTcv v).pending = s.pending := rfl
@[simp] theorem State.withAbm_link (v : Abm) : (s.withAbm v).link = s.link := rfl
@[simp] theorem State.withAbm_ssv (v : Abm) : (s.withAbm v).ssv = s.ssv := rfl
@[simp] theorem State.withAbm_accounts (v : Abm) : (s.withAbm v).accounts = s.accounts := rfl
@[simp] theorem State.withAbm_zones (v : Abm) : (s.withAbm v).zones = s.zones := rfl
@[simp] theorem State.withAbm_prices (v : Abm) : (s.withAbm v).prices = s.prices := rfl
@[simp] theorem State.withAbm_band (v : Abm) : (s.withAbm v).band = s.band := rfl
@[simp] theorem State.withAbm_queue (v : Abm) : (s.withAbm v).queue = s.queue := rfl
@[simp] theorem State.withAbm_records (v : Abm) : (s.withAbm v).records = s.records := rfl
@[simp] theorem State.withAbm_sen (v : Abm) : (s.withAbm v).sen = s.sen := rfl
@[simp] theorem State.withAbm_ledgers (v : Abm) : (s.withAbm v).ledgers = s.ledgers := rfl
@[simp] theorem State.withAbm_house (v : Abm) : (s.withAbm v).house = s.house := rfl
@[simp] theorem State.withAbm_channels (v : Abm) : (s.withAbm v).channels = s.channels := rfl
@[simp] theorem State.withAbm_inputs (v : Abm) : (s.withAbm v).inputs = s.inputs := rfl
@[simp] theorem State.withAbm_tcv (v : Abm) : (s.withAbm v).tcv = s.tcv := rfl
@[simp] theorem State.withAbm_abm (v : Abm) : (s.withAbm v).abm = v := rfl
@[simp] theorem State.withAbm_nodes (v : Abm) : (s.withAbm v).nodes = s.nodes := rfl
@[simp] theorem State.withAbm_points (v : Abm) : (s.withAbm v).points = s.points := rfl
@[simp] theorem State.withAbm_atu (v : Abm) : (s.withAbm v).atu = s.atu := rfl
@[simp] theorem State.withAbm_freeUses (v : Abm) : (s.withAbm v).freeUses = s.freeUses := rfl
@[simp] theorem State.withAbm_pending (v : Abm) : (s.withAbm v).pending = s.pending := rfl
@[simp] theorem State.withNodes_link (v : List NodeEntry) : (s.withNodes v).link = s.link := rfl
@[simp] theorem State.withNodes_ssv (v : List NodeEntry) : (s.withNodes v).ssv = s.ssv := rfl
@[simp] theorem State.withNodes_accounts (v : List NodeEntry) : (s.withNodes v).accounts = s.accounts := rfl
@[simp] theorem State.withNodes_zones (v : List NodeEntry) : (s.withNodes v).zones = s.zones := rfl
@[simp] theorem State.withNodes_prices (v : List NodeEntry) : (s.withNodes v).prices = s.prices := rfl
@[simp] theorem State.withNodes_band (v : List NodeEntry) : (s.withNodes v).band = s.band := rfl
@[simp] theorem State.withNodes_queue (v : List NodeEntry) : (s.withNodes v).queue = s.queue := rfl
@[simp] theorem State.withNodes_records (v : List NodeEntry) : (s.withNodes v).records = s.records := rfl
@[simp] theorem State.withNodes_sen (v : List NodeEntry) : (s.withNodes v).sen = s.sen := rfl
@[simp] theorem State.withNodes_ledgers (v : List NodeEntry) : (s.withNodes v).ledgers = s.ledgers := rfl
@[simp] theorem State.withNodes_house (v : List NodeEntry) : (s.withNodes v).house = s.house := rfl
@[simp] theorem State.withNodes_channels (v : List NodeEntry) : (s.withNodes v).channels = s.channels := rfl
@[simp] theorem State.withNodes_inputs (v : List NodeEntry) : (s.withNodes v).inputs = s.inputs := rfl
@[simp] theorem State.withNodes_tcv (v : List NodeEntry) : (s.withNodes v).tcv = s.tcv := rfl
@[simp] theorem State.withNodes_abm (v : List NodeEntry) : (s.withNodes v).abm = s.abm := rfl
@[simp] theorem State.withNodes_nodes (v : List NodeEntry) : (s.withNodes v).nodes = v := rfl
@[simp] theorem State.withNodes_points (v : List NodeEntry) : (s.withNodes v).points = s.points := rfl
@[simp] theorem State.withNodes_atu (v : List NodeEntry) : (s.withNodes v).atu = s.atu := rfl
@[simp] theorem State.withNodes_freeUses (v : List NodeEntry) : (s.withNodes v).freeUses = s.freeUses := rfl
@[simp] theorem State.withNodes_pending (v : List NodeEntry) : (s.withNodes v).pending = s.pending := rfl
@[simp] theorem State.withPoints_link (v : Vector Point 64) : (s.withPoints v).link = s.link := rfl
@[simp] theorem State.withPoints_ssv (v : Vector Point 64) : (s.withPoints v).ssv = s.ssv := rfl
@[simp] theorem State.withPoints_accounts (v : Vector Point 64) : (s.withPoints v).accounts = s.accounts := rfl
@[simp] theorem State.withPoints_zones (v : Vector Point 64) : (s.withPoints v).zones = s.zones := rfl
@[simp] theorem State.withPoints_prices (v : Vector Point 64) : (s.withPoints v).prices = s.prices := rfl
@[simp] theorem State.withPoints_band (v : Vector Point 64) : (s.withPoints v).band = s.band := rfl
@[simp] theorem State.withPoints_queue (v : Vector Point 64) : (s.withPoints v).queue = s.queue := rfl
@[simp] theorem State.withPoints_records (v : Vector Point 64) : (s.withPoints v).records = s.records := rfl
@[simp] theorem State.withPoints_sen (v : Vector Point 64) : (s.withPoints v).sen = s.sen := rfl
@[simp] theorem State.withPoints_ledgers (v : Vector Point 64) : (s.withPoints v).ledgers = s.ledgers := rfl
@[simp] theorem State.withPoints_house (v : Vector Point 64) : (s.withPoints v).house = s.house := rfl
@[simp] theorem State.withPoints_channels (v : Vector Point 64) : (s.withPoints v).channels = s.channels := rfl
@[simp] theorem State.withPoints_inputs (v : Vector Point 64) : (s.withPoints v).inputs = s.inputs := rfl
@[simp] theorem State.withPoints_tcv (v : Vector Point 64) : (s.withPoints v).tcv = s.tcv := rfl
@[simp] theorem State.withPoints_abm (v : Vector Point 64) : (s.withPoints v).abm = s.abm := rfl
@[simp] theorem State.withPoints_nodes (v : Vector Point 64) : (s.withPoints v).nodes = s.nodes := rfl
@[simp] theorem State.withPoints_points (v : Vector Point 64) : (s.withPoints v).points = v := rfl
@[simp] theorem State.withPoints_atu (v : Vector Point 64) : (s.withPoints v).atu = s.atu := rfl
@[simp] theorem State.withPoints_freeUses (v : Vector Point 64) : (s.withPoints v).freeUses = s.freeUses := rfl
@[simp] theorem State.withPoints_pending (v : Vector Point 64) : (s.withPoints v).pending = s.pending := rfl
@[simp] theorem State.withAtu_link (v : Atu) : (s.withAtu v).link = s.link := rfl
@[simp] theorem State.withAtu_ssv (v : Atu) : (s.withAtu v).ssv = s.ssv := rfl
@[simp] theorem State.withAtu_accounts (v : Atu) : (s.withAtu v).accounts = s.accounts := rfl
@[simp] theorem State.withAtu_zones (v : Atu) : (s.withAtu v).zones = s.zones := rfl
@[simp] theorem State.withAtu_prices (v : Atu) : (s.withAtu v).prices = s.prices := rfl
@[simp] theorem State.withAtu_band (v : Atu) : (s.withAtu v).band = s.band := rfl
@[simp] theorem State.withAtu_queue (v : Atu) : (s.withAtu v).queue = s.queue := rfl
@[simp] theorem State.withAtu_records (v : Atu) : (s.withAtu v).records = s.records := rfl
@[simp] theorem State.withAtu_sen (v : Atu) : (s.withAtu v).sen = s.sen := rfl
@[simp] theorem State.withAtu_ledgers (v : Atu) : (s.withAtu v).ledgers = s.ledgers := rfl
@[simp] theorem State.withAtu_house (v : Atu) : (s.withAtu v).house = s.house := rfl
@[simp] theorem State.withAtu_channels (v : Atu) : (s.withAtu v).channels = s.channels := rfl
@[simp] theorem State.withAtu_inputs (v : Atu) : (s.withAtu v).inputs = s.inputs := rfl
@[simp] theorem State.withAtu_tcv (v : Atu) : (s.withAtu v).tcv = s.tcv := rfl
@[simp] theorem State.withAtu_abm (v : Atu) : (s.withAtu v).abm = s.abm := rfl
@[simp] theorem State.withAtu_nodes (v : Atu) : (s.withAtu v).nodes = s.nodes := rfl
@[simp] theorem State.withAtu_points (v : Atu) : (s.withAtu v).points = s.points := rfl
@[simp] theorem State.withAtu_atu (v : Atu) : (s.withAtu v).atu = v := rfl
@[simp] theorem State.withAtu_freeUses (v : Atu) : (s.withAtu v).freeUses = s.freeUses := rfl
@[simp] theorem State.withAtu_pending (v : Atu) : (s.withAtu v).pending = s.pending := rfl
@[simp] theorem State.withFreeUses_link (v : Nat) : (s.withFreeUses v).link = s.link := rfl
@[simp] theorem State.withFreeUses_ssv (v : Nat) : (s.withFreeUses v).ssv = s.ssv := rfl
@[simp] theorem State.withFreeUses_accounts (v : Nat) : (s.withFreeUses v).accounts = s.accounts := rfl
@[simp] theorem State.withFreeUses_zones (v : Nat) : (s.withFreeUses v).zones = s.zones := rfl
@[simp] theorem State.withFreeUses_prices (v : Nat) : (s.withFreeUses v).prices = s.prices := rfl
@[simp] theorem State.withFreeUses_band (v : Nat) : (s.withFreeUses v).band = s.band := rfl
@[simp] theorem State.withFreeUses_queue (v : Nat) : (s.withFreeUses v).queue = s.queue := rfl
@[simp] theorem State.withFreeUses_records (v : Nat) : (s.withFreeUses v).records = s.records := rfl
@[simp] theorem State.withFreeUses_sen (v : Nat) : (s.withFreeUses v).sen = s.sen := rfl
@[simp] theorem State.withFreeUses_ledgers (v : Nat) : (s.withFreeUses v).ledgers = s.ledgers := rfl
@[simp] theorem State.withFreeUses_house (v : Nat) : (s.withFreeUses v).house = s.house := rfl
@[simp] theorem State.withFreeUses_channels (v : Nat) : (s.withFreeUses v).channels = s.channels := rfl
@[simp] theorem State.withFreeUses_inputs (v : Nat) : (s.withFreeUses v).inputs = s.inputs := rfl
@[simp] theorem State.withFreeUses_tcv (v : Nat) : (s.withFreeUses v).tcv = s.tcv := rfl
@[simp] theorem State.withFreeUses_abm (v : Nat) : (s.withFreeUses v).abm = s.abm := rfl
@[simp] theorem State.withFreeUses_nodes (v : Nat) : (s.withFreeUses v).nodes = s.nodes := rfl
@[simp] theorem State.withFreeUses_points (v : Nat) : (s.withFreeUses v).points = s.points := rfl
@[simp] theorem State.withFreeUses_atu (v : Nat) : (s.withFreeUses v).atu = s.atu := rfl
@[simp] theorem State.withFreeUses_freeUses (v : Nat) : (s.withFreeUses v).freeUses = v := rfl
@[simp] theorem State.withFreeUses_pending (v : Nat) : (s.withFreeUses v).pending = s.pending := rfl
@[simp] theorem State.withPending_link (v : List Instr) : (s.withPending v).link = s.link := rfl
@[simp] theorem State.withPending_ssv (v : List Instr) : (s.withPending v).ssv = s.ssv := rfl
@[simp] theorem State.withPending_accounts (v : List Instr) : (s.withPending v).accounts = s.accounts := rfl
@[simp] theorem State.withPending_zones (v : List Instr) : (s.withPending v).zones = s.zones := rfl
@[simp] theorem State.withPending_prices (v : List Instr) : (s.withPending v).prices = s.prices := rfl
@[simp] theorem State.withPending_band (v : List Instr) : (s.withPending v).band = s.band := rfl
@[simp] theorem State.withPending_queue (v : List Instr) : (s.withPending v).queue = s.queue := rfl
@[simp] theorem State.withPending_records (v : List Instr) : (s.withPending v).records = s.records := rfl
@[simp] theorem State.withPending_sen (v : List Instr) : (s.withPending v).sen = s.sen := rfl
@[simp] theorem State.withPending_ledgers (v : List Instr) : (s.withPending v).ledgers = s.ledgers := rfl
@[simp] theorem State.withPending_house (v : List Instr) : (s.withPending v).house = s.house := rfl
@[simp] theorem State.withPending_channels (v : List Instr) : (s.withPending v).channels = s.channels := rfl
@[simp] theorem State.withPending_inputs (v : List Instr) : (s.withPending v).inputs = s.inputs := rfl
@[simp] theorem State.withPending_tcv (v : List Instr) : (s.withPending v).tcv = s.tcv := rfl
@[simp] theorem State.withPending_abm (v : List Instr) : (s.withPending v).abm = s.abm := rfl
@[simp] theorem State.withPending_nodes (v : List Instr) : (s.withPending v).nodes = s.nodes := rfl
@[simp] theorem State.withPending_points (v : List Instr) : (s.withPending v).points = s.points := rfl
@[simp] theorem State.withPending_atu (v : List Instr) : (s.withPending v).atu = s.atu := rfl
@[simp] theorem State.withPending_freeUses (v : List Instr) : (s.withPending v).freeUses = s.freeUses := rfl
@[simp] theorem State.withPending_pending (v : List Instr) : (s.withPending v).pending = v := rfl

/-! Setting a field to the value it has changes nothing, and the last of two settings stands. -/

@[simp] theorem State.withLink_self : s.withLink s.link = s := rfl
@[simp] theorem State.withLink_twice (v w : Link) : (s.withLink v).withLink w = s.withLink w := rfl
@[simp] theorem State.withSsv_self : s.withSsv s.ssv = s := rfl
@[simp] theorem State.withSsv_twice (v w : Ssv) : (s.withSsv v).withSsv w = s.withSsv w := rfl
@[simp] theorem State.withAccounts_self : s.withAccounts s.accounts = s := rfl
@[simp] theorem State.withAccounts_twice (v w : Vector AccountState 128) : (s.withAccounts v).withAccounts w = s.withAccounts w := rfl
@[simp] theorem State.withZones_self : s.withZones s.zones = s := rfl
@[simp] theorem State.withZones_twice (v w : Vector Zone 16) : (s.withZones v).withZones w = s.withZones w := rfl
@[simp] theorem State.withPrices_self : s.withPrices s.prices = s := rfl
@[simp] theorem State.withPrices_twice (v w : ByMode (Bands Nat)) : (s.withPrices v).withPrices w = s.withPrices w := rfl
@[simp] theorem State.withBand_self : s.withBand s.band = s := rfl
@[simp] theorem State.withBand_twice (v w : BandNo) : (s.withBand v).withBand w = s.withBand w := rfl
@[simp] theorem State.withQueue_self : s.withQueue s.queue = s := rfl
@[simp] theorem State.withQueue_twice (v w : List ZoneNo) : (s.withQueue v).withQueue w = s.withQueue w := rfl
@[simp] theorem State.withRecords_self : s.withRecords s.records = s := rfl
@[simp] theorem State.withRecords_twice (v w : Vector SettlementRecord 16) : (s.withRecords v).withRecords w = s.withRecords w := rfl
@[simp] theorem State.withSen_self : s.withSen s.sen = s := rfl
@[simp] theorem State.withSen_twice (v w : Sen) : (s.withSen v).withSen w = s.withSen w := rfl
@[simp] theorem State.withLedgers_self : s.withLedgers s.ledgers = s := rfl
@[simp] theorem State.withLedgers_twice (v w : Vector Ledger 128) : (s.withLedgers v).withLedgers w = s.withLedgers w := rfl
@[simp] theorem State.withHouse_self : s.withHouse s.house = s := rfl
@[simp] theorem State.withHouse_twice (v w : House) : (s.withHouse v).withHouse w = s.withHouse w := rfl
@[simp] theorem State.withChannels_self : s.withChannels s.channels = s := rfl
@[simp] theorem State.withChannels_twice (v w : Vector Channel 8) : (s.withChannels v).withChannels w = s.withChannels w := rfl
@[simp] theorem State.withInputs_self : s.withInputs s.inputs = s := rfl
@[simp] theorem State.withInputs_twice (v w : Vector Input 8) : (s.withInputs v).withInputs w = s.withInputs w := rfl
@[simp] theorem State.withTcv_self : s.withTcv s.tcv = s := rfl
@[simp] theorem State.withTcv_twice (v w : Tcv) : (s.withTcv v).withTcv w = s.withTcv w := rfl
@[simp] theorem State.withAbm_self : s.withAbm s.abm = s := rfl
@[simp] theorem State.withAbm_twice (v w : Abm) : (s.withAbm v).withAbm w = s.withAbm w := rfl
@[simp] theorem State.withNodes_self : s.withNodes s.nodes = s := rfl
@[simp] theorem State.withNodes_twice (v w : List NodeEntry) : (s.withNodes v).withNodes w = s.withNodes w := rfl
@[simp] theorem State.withPoints_self : s.withPoints s.points = s := rfl
@[simp] theorem State.withPoints_twice (v w : Vector Point 64) : (s.withPoints v).withPoints w = s.withPoints w := rfl
@[simp] theorem State.withAtu_self : s.withAtu s.atu = s := rfl
@[simp] theorem State.withAtu_twice (v w : Atu) : (s.withAtu v).withAtu w = s.withAtu w := rfl
@[simp] theorem State.withFreeUses_self : s.withFreeUses s.freeUses = s := rfl
@[simp] theorem State.withFreeUses_twice (v w : Nat) : (s.withFreeUses v).withFreeUses w = s.withFreeUses w := rfl
@[simp] theorem State.withPending_self : s.withPending s.pending = s := rfl
@[simp] theorem State.withPending_twice (v w : List Instr) : (s.withPending v).withPending w = s.withPending w := rfl

end Sys2Proof.Machine
end

