-- ==== Sys2Proof/Laws/Ops.lean ====
section
/-! SUPPORT. What the shared operations do: saturating arithmetic, table access, the close of a zone, the Node Table. -/

namespace Sys2Proof.Machine

/-! ### Saturating arithmetic -/

theorem satAdd_le (limit a b : Nat) : satAdd limit a b ≤ limit := by
  unfold satAdd; split <;> omega

/-- Saturating addition is the least of the sum and the limit. -/
theorem satAdd_eq_min (limit a b : Nat) : satAdd limit a b = min (a + b) limit := by
  unfold satAdd; split <;> omega

theorem inc32_eq_min (n : Nat) : inc32 n = min (n + 1) (2 ^ 32 - 1) := satAdd_eq_min ..

theorem satAdd_eq_of_le {limit a b : Nat} (h : a + b ≤ limit) : satAdd limit a b = a + b := by
  unfold satAdd; split <;> omega

theorem satAdd_zero {limit a : Nat} (h : a ≤ limit) : satAdd limit a 0 = a := satAdd_eq_of_le (by omega)

theorem le_satAdd {limit a : Nat} (b : Nat) (h : a ≤ limit) : a ≤ satAdd limit a b := by
  unfold satAdd; split <;> omega

theorem overflows_iff (limit a b : Nat) : overflows limit a b = true ↔ limit < a + b := by
  simp [overflows]

theorem Accum.add_value (limit : Nat) (a : Accum) (x : Nat) : (a.add limit x).value = satAdd limit a.value x := rfl

theorem Accum.add_saturated (limit : Nat) (a : Accum) (x : Nat) :
    (a.add limit x).saturated = true ↔ a.saturated = true ∨ limit < a.value + x := by
  simp [Accum.add, overflows]

theorem Accum.add_zero {limit : Nat} {a : Accum} (h : a.value ≤ limit) : a.add limit 0 = a := by
  cases a with
  | mk v f =>
    have hv : v ≤ limit := h
    simp [Accum.add, satAdd_zero hv, overflows, Nat.not_lt.mpr hv]

theorem inc32_le (n : Nat) : inc32 n ≤ lim32 := satAdd_le lim32 n 1

/-! ### Tables -/

theorem upd_get_nat {α : Type} {n : Nat} (v : Vector α n) (i : Fin n) (f : α → α) (j : Nat) (hj : j < n) :
    (upd v i f)[j] = if i.val = j then f v[j] else v[j] := by
  by_cases h : i.val = j
  · subst h
    simp [upd]
  · simp [upd, h]

@[simp] theorem upd_same {α : Type} {n : Nat} (v : Vector α n) (i : Fin n) (f : α → α) : (upd v i f)[i.val] = f v[i.val] := by
  simp [upd_get_nat]

theorem upd_get {α : Type} {n : Nat} (v : Vector α n) (i j : Fin n) (f : α → α) :
    (upd v i f)[j] = if i = j then f v[j] else v[j] := by
  have := upd_get_nat v i f j.val j.isLt
  simpa [Fin.ext_iff] using this

theorem upd_other {α : Type} {n : Nat} (v : Vector α n) {i j : Fin n} (f : α → α) (h : i ≠ j) : (upd v i f)[j] = v[j] := by
  rw [upd_get]
  exact if_neg h

@[simp] theorem bandwise_get {α : Type} (f : BandNo → α) (b : BandNo) : (bandwise f)[b.val] = f b := by
  match b with
  | 0 => rfl
  | 1 => rfl
  | 2 => rfl
  | 3 => rfl

theorem bandwise_total (f : BandNo → Nat) : (bandwise f).total = f 0 + f 1 + f 2 + f 3 := rfl

@[simp] theorem ByMode.get_put_same {α : Type} (v : ByMode α) (m : Mode) (x : α) : (v.put m x).get m = x := by
  cases m <;> rfl

theorem ByMode.get_put_other {α : Type} (v : ByMode α) {m n : Mode} (x : α) (h : m ≠ n) : (v.put m x).get n = v.get n := by
  cases m <;> cases n <;> first | rfl | exact absurd rfl h

@[simp] theorem mapChannels_get (f : Channel → Channel) (v : Vector Channel 8) (c : ChannelNo) : (mapChannels f v)[c.val] = f v[c.val] := by
  match c with
  | 0 => rfl
  | 1 => rfl
  | 2 => rfl
  | 3 => rfl
  | 4 => rfl
  | 5 => rfl
  | 6 => rfl
  | 7 => rfl

theorem mem_allChannels (c : ChannelNo) : c ∈ allChannels := by revert c; decide

theorem mem_allZones (z : ZoneNo) : z ∈ allZones := by revert z; decide

theorem mem_allSensors (n : SensorNo) : n ∈ allSensors := by revert n; decide

theorem mem_allBands (b : BandNo) : b ∈ allBands := by revert b; decide

theorem mem_allPoints (i : PointNo) : i ∈ allPoints := List.mem_finRange i

/-! ### Frames of the small state operations -/

/-- A zone update touches the zones alone. -/
theorem State.updZone_frame (s : State) (z : ZoneNo) (f : Zone → Zone) : s.updZone z f = s.withZones (s.updZone z f).zones := rfl

theorem State.updZone_zones (s : State) (z : ZoneNo) (f : Zone → Zone) : (s.updZone z f).zones = upd s.zones z f := rfl

theorem State.updChannel_frame (s : State) (c : ChannelNo) (f : Channel → Channel) :
    s.updChannel c f = s.withChannels (s.updChannel c f).channels := rfl

theorem State.updInput_frame (s : State) (c : ChannelNo) (f : Input → Input) : s.updInput c f = s.withInputs (s.updInput c f).inputs := rfl

theorem State.updNode_frame (s : State) (x : Serial) (f : NodeEntry → NodeEntry) : s.updNode x f = s.withNodes (s.updNode x f).nodes := rfl

theorem State.addU_frame (s : State) (z : ZoneNo) (x : Nat) : s.addU z x = s.withZones (s.addU z x).zones := rfl

theorem State.addW_frame (s : State) (z : ZoneNo) (a : AccountNo) (x : Nat) : s.addW z a x = s.withZones (s.addW z a x).zones := rfl

theorem State.countBus_frame (s : State) (f : BusCounters → BusCounters) : s.countBus f = s.withAbm (s.countBus f).abm := rfl

theorem State.countTotal_frame (s : State) (f : BusTotals → BusTotals) : s.countTotal f = s.withAbm (s.countTotal f).abm := rfl

theorem State.countAtu_frame (s : State) (f : AtuCounters → AtuCounters) : s.countAtu f = s.withAtu (s.countAtu f).atu := rfl

theorem State.flag_frame (s : State) (f : EventFlags → EventFlags) : s.flag f = s.withLink (s.flag f).link := rfl

/-- Setting a flag changes nothing in LINK but the flags. -/
theorem State.flag_link (s : State) (f : EventFlags → EventFlags) : (s.flag f).link = { s.link with flags := f s.link.flags } := rfl

/-! ### The close (R18) -/

/-- A close touches the zones, the channels and the queue. -/
theorem State.closeZone_frame (s : State) (z : ZoneNo) (c : CloseCause) (t : CloseTerms) :
    s.closeZone z c t =
      ((s.withZones (s.closeZone z c t).zones).withChannels (s.closeZone z c t).channels).withQueue (s.closeZone z c t).queue := rfl

/-- The zone closed. -/
theorem State.closeZone_zone (s : State) (z : ZoneNo) (c : CloseCause) (t : CloseTerms) :
    (s.closeZone z c t).zones[z] = s.zones[z].close c s.abm.cycleNumber t := by
  show (upd s.zones z _)[z.val] = _
  rw [upd_same]
  rfl

/-- The other zones. -/
theorem State.closeZone_zone_other (s : State) {z y : ZoneNo} (c : CloseCause) (t : CloseTerms) (h : z ≠ y) :
    (s.closeZone z c t).zones[y] = s.zones[y] := upd_other s.zones _ h

/-- The channels: those assigned to the zone have their open half moved. -/
theorem State.closeZone_channel (s : State) (z : ZoneNo) (c : CloseCause) (t : CloseTerms) (k : ChannelNo) :
    (s.closeZone z c t).channels[k] = if s.channels[k].zone = some z then s.channels[k].close else s.channels[k] :=
  mapChannels_get _ _ k

/-- The zone joins the tail of the queue. -/
theorem State.closeZone_queue (s : State) (z : ZoneNo) (c : CloseCause) (t : CloseTerms) : (s.closeZone z c t).queue = s.queue ++ [z] := rfl

/-- A close of ARMED zones in any list touches the zones, the channels and the queue. -/
theorem State.foldl_closeIfArmed_frame (c : CloseCause) (l : List ZoneNo) (s : State) :
    l.foldl (State.closeIfArmed c) s =
      ((s.withZones (l.foldl (State.closeIfArmed c) s).zones).withChannels (l.foldl (State.closeIfArmed c) s).channels).withQueue
        (l.foldl (State.closeIfArmed c) s).queue := by
  induction l generalizing s with
  | nil => rfl
  | cons z l ih =>
    simp only [List.foldl_cons]
    rw [ih (State.closeIfArmed c s z)]
    unfold State.closeIfArmed
    split <;> rfl

/-- The close of every ARMED zone touches the zones, the channels and the queue. -/
theorem State.closeArmed_frame (s : State) (c : CloseCause) :
    s.closeArmed c = ((s.withZones (s.closeArmed c).zones).withChannels (s.closeArmed c).channels).withQueue (s.closeArmed c).queue :=
  State.foldl_closeIfArmed_frame c allZones s

/-- Without an ARMED zone nothing closes. -/
theorem State.closeArmed_of_none (s : State) (c : CloseCause) (h : ∀ z : ZoneNo, s.zones[z].state ≠ .armed) : s.closeArmed c = s := by
  have key : ∀ l : List ZoneNo, l.foldl (State.closeIfArmed c) s = s := by
    intro l
    induction l with
    | nil => rfl
    | cons z l ih => rw [List.foldl_cons, State.closeIfArmed, if_neg (h z), ih]
  exact key allZones

/-! ### The Node Table (R148, R150) -/

/-- Without an operation in progress every entry is present. -/
theorem State.presentNodes_of_none (s : State) (h : s.atu.op = none) : s.presentNodes = s.nodes := by
  simp [State.presentNodes, State.removing, h]

theorem State.mem_of_node? {s : State} {x : Serial} {e : NodeEntry} (h : s.node? x = some e) : e ∈ s.nodes ∧ e.serial = x := by
  unfold State.node? at h
  refine ⟨List.mem_of_mem_filter (List.mem_of_find?_eq_some h), ?_⟩
  simpa using List.find?_some h

theorem mem_insertNode (e x : NodeEntry) (l : List NodeEntry) : x ∈ insertNode e l ↔ x = e ∨ x ∈ l := by
  induction l with
  | nil => simp [insertNode]
  | cons y l ih =>
    unfold insertNode
    split
    · simp
    · simp only [List.mem_cons, ih]
      tauto

/-- The new entry stands between the lower and the higher serials (R148). -/
theorem insertNode_between (e : NodeEntry) (l r : List NodeEntry) (hl : ∀ y ∈ l, y.serial < e.serial) (hr : ∀ y ∈ r, e.serial < y.serial) :
    insertNode e (l ++ r) = l ++ e :: r := by
  induction l with
  | nil =>
    cases r with
    | nil => rfl
    | cons y r => rw [List.nil_append, List.nil_append, insertNode, if_pos (hr y (by simp))]
  | cons y l ih =>
    rw [List.cons_append, insertNode, if_neg (BitVec.lt_asymm (hl y (by simp))), ih fun z hz => hl z (by simp [hz])]
    rfl

theorem length_insertNode (e : NodeEntry) (l : List NodeEntry) : (insertNode e l).length = l.length + 1 := by
  induction l with
  | nil => rfl
  | cons y l ih => unfold insertNode; split <;> simp [ih]

/-- Insertion of an absent serial keeps the strictly ascending order. -/
theorem pairwise_insertNode (e : NodeEntry) (l : List NodeEntry) (h : l.Pairwise (fun a b => a.serial < b.serial))
    (ha : ∀ x ∈ l, x.serial ≠ e.serial) : (insertNode e l).Pairwise (fun a b => a.serial < b.serial) := by
  induction l with
  | nil => simp [insertNode]
  | cons y l ih =>
    rw [List.pairwise_cons] at h
    unfold insertNode
    split
    · rename_i hlt
      rw [List.pairwise_cons, List.pairwise_cons]
      refine ⟨?_, h.1, h.2⟩
      intro x hx
      rcases List.mem_cons.mp hx with rfl | hx
      · exact hlt
      · exact BitVec.lt_trans hlt (h.1 x hx)
    · rename_i hge
      rw [List.pairwise_cons]
      refine ⟨?_, ih h.2 (fun x hx => ha x (List.mem_cons_of_mem _ hx))⟩
      intro x hx
      rcases (mem_insertNode e x l).mp hx with rfl | hx
      · have hne := ha y List.mem_cons_self
        rw [BitVec.lt_def] at hge ⊢
        have : y.serial.toNat ≠ x.serial.toNat := fun h => hne (BitVec.eq_of_toNat_eq h)
        omega
      · exact h.1 x hx

/-- An update that keeps the serials keeps the order. -/
theorem State.updNode_pairwise (s : State) (x : Serial) (f : NodeEntry → NodeEntry) (hf : ∀ e, (f e).serial = e.serial)
    (h : s.nodes.Pairwise (fun a b => a.serial < b.serial)) : (s.updNode x f).nodes.Pairwise (fun a b => a.serial < b.serial) := by
  have key : ∀ e : NodeEntry, (if e.serial = x then f e else e).serial = e.serial := by
    intro e
    split
    · exact hf e
    · rfl
  show (s.nodes.map _).Pairwise _
  rw [List.pairwise_map]
  refine h.imp ?_
  intro a b hab
  rw [key a, key b]
  exact hab

/-! ### The apportion operation (R28) -/

theorem length_apportion (pool : Nat) (weights : List Nat) : (apportion pool weights).length = weights.length := by
  simp [apportion]

end Sys2Proof.Machine
end

