-- ==== Sys2Proof/Laws/Bus.lean ====
section
/-! SUPPORT. What the terms of the statements mean to the model's own functions, and what bus time, a reception and the transmit pins can do: one lemma
for each, cited instead of unfolding it. -/

namespace Sys2Proof.Machine

/-! ### Terms of the rules and the functions that decide them -/

theorem isAhead_iff (s : State) (c : Cycle) (x : NodeEntry) : isAhead s c x ↔ afterCursor s.abm.rotation c.cursor x = true := by
  unfold isAhead afterCursor rotationKey
  cases c.cursor <;> simp

theorem pointMatches_iff (p : Point) (x : Serial) (z : ZoneNo) : pointMatches p x z ↔ p.covers x z = true := by
  unfold pointMatches Point.covers
  cases p.zoneFilter <;> simp [and_assoc]

theorem isScanSet_scanList (s : State) : isScanSet s s.scanList := by
  refine ⟨List.Pairwise.sublist List.filter_sublist (by decide), fun n c h => ?_⟩
  obtain rfl : c = sensorChannel n := Fin.ext h
  simp [State.scanList, State.scanned, mem_allSensors]

/-- There is one scan set. -/
theorem isScanSet_iff (s : State) (l : List SensorNo) : isScanSet s l ↔ l = s.scanList := by
  refine ⟨fun h => ?_, fun h => h ▸ isScanSet_scanList s⟩
  refine List.Perm.eq_of_pairwise (le := (· < ·)) (fun a b _ _ hab hba => absurd hab (Fin.lt_asymm hba)) h.1 (isScanSet_scanList s).1 ?_
  refine (List.perm_ext_iff_of_nodup (h.1.imp Fin.ne_of_lt) ((isScanSet_scanList s).1.imp Fin.ne_of_lt)).2 fun n => ?_
  rw [h.2 n (sensorChannel n) rfl, (isScanSet_scanList s).2 n (sensorChannel n) rfl]

/-! ### Bus time (log 5, log 6) -/

theorem State.elapse_frame (s : State) (n : Nat) : s.elapse n = s.withAbm (s.elapse n).abm := rfl

/-- Elapsed time is counted from the bus event before (log 5). -/
theorem State.elapse_cycle {s : State} {c : Cycle} (n : Nat) (h : s.abm.cycle = some c) :
    (s.elapse n).abm = { s.abm with cycle := some { c with elapsed := c.elapsed + n, passed := 0 } } := by
  simp [State.elapse, State.updCycle, State.withCycle, h]

/-- A record's moment: the count of bit times goes on by some number, never back, one free value is drawn, and the record says so (log 6). -/
theorem State.letTimePass_counts (s : State) : ∃ n, s.countsOn n ∧ s.letTimePass = (s.counting n).withFreeUses (s.freeUses + 1) ∧
    s.letTimePass.busStatus = s.busRecord n := by
  cases h : s.abm.cycle with
  | none =>
    refine ⟨0, fun c hc => by simp [h] at hc, ?_, ?_⟩
    · simp [State.letTimePass, State.updCycle, State.withCycle, State.drawFree, State.counting, h]
    · simp [State.letTimePass, State.updCycle, State.withCycle, State.drawFree, State.busStatus, State.busRecord, h]
  | some c =>
    refine ⟨max c.passed (min (s.sinceBound c) (c.passed + Config.busTimeSinceEvent s.freeUses)), fun d hd => ?_, ?_, ?_⟩
    · rw [h, Option.some.injEq] at hd
      subst hd
      exact Nat.le_max_left ..
    · simp [State.letTimePass, State.updCycle, State.withCycle, State.drawFree, State.counting, h]
    · simp [State.letTimePass, State.updCycle, State.withCycle, State.drawFree, State.busStatus, State.busRecord, h]

/-! ### Reception (R120) -/

/-- A reception that is open, of the right kind and in time keeps its outcome, and its bit times are counted. -/
theorem State.receive_open {s : State} {t : Transaction} {n : Nat} {c : Cycle} {kind : Transaction → Bool} {reply : AttemptReply}
    (hr : s.mainRuns = true) (ha : s.abm.activity = .attempt t n none) (hc : s.abm.cycle = some c) (hk : kind t = true)
    (hp : c.passed ≤ receptionLength t reply) : s.receive kind reply = s.withAbm { s.abm with
      activity := .attempt t n (some reply), cycle := some { c with passed := receptionLength t reply } } := by
  simp [State.receive, State.inTime, State.countTo, State.updCycle, State.withCycle, State.withActivity, ha, hr, hk, hc, hp]

/-- Once more bit times have been counted than the reception lasts, it cannot end so (log 6). -/
theorem State.receive_late {s : State} {t : Transaction} {n : Nat} {c : Cycle} {kind : Transaction → Bool} {reply : AttemptReply}
    (ha : s.abm.activity = .attempt t n none) (hc : s.abm.cycle = some c) (hp : receptionLength t reply < c.passed) :
    s.receive kind reply = s := by
  have h : s.inTime t reply = false := by simp [State.inTime, hc, hp]
  simp [State.receive, ha, h]

/-- With no reception open, nothing ends one (log 2). -/
theorem State.receive_closed {s : State} {kind : Transaction → Bool} {reply : AttemptReply} (h : ∀ t n, s.abm.activity ≠ .attempt t n none) :
    s.receive kind reply = s := by
  unfold State.receive
  split
  · rename_i t n ha
    exact absurd ha (h t n)
  · rfl

/-! ### The transmit pins (R118, R170) -/

@[simp] theorem length_busBits (b : Byte) : (busBits b).length = 11 := rfl

@[simp] theorem length_hostBits (b : Byte) : (hostBits b).length = 10 := rfl

theorem length_flatMap_busBits (l : List Byte) : (l.flatMap busBits).length = 11 * l.length := by
  induction l with
  | nil => rfl
  | cons b l ih => simp [ih]; omega

/-- The levels of bytes sent back to back, `n` for each byte: level `i` of byte `k` stands at place `n * k + i`. -/
theorem getD_flatMap_levels {n : Nat} {f : Byte → List Bool} (hf : ∀ b, (f b).length = n) {l : List Byte} {k i : Nat} {b : Byte}
    (hk : l[k]? = some b) (hi : i < n) : (l.flatMap f).getD (n * k + i) true = (f b).getD i true := by
  induction l generalizing k with
  | nil => simp at hk
  | cons x l ih =>
    rw [List.flatMap_cons]
    cases k with
    | zero =>
      obtain rfl : x = b := by simpa using hk
      rw [Nat.mul_zero, Nat.zero_add, List.getD_append _ _ _ _ (by rw [hf]; exact hi)]
    | succ k =>
      have e : n * (k + 1) + i = n * k + i + (f x).length := by rw [hf, Nat.mul_succ]; omega
      rw [e, List.getD_append_right _ _ _ _ (Nat.le_add_left ..), Nat.add_sub_cancel]
      exact ih (by simpa using hk)

/-- Outside the frame the bus line stands at the mark level (R118). -/
theorem State.busTransmit_released {s : State} {t : Nat} (h : s.driverEnabled t = false) : s.busTransmit t = true := by
  simp [State.driverEnabled] at h
  simp [State.busTransmit, h]

/-- While its frame goes out, the transmit pin gives the bits of its bytes in order (R118). -/
theorem State.busTransmit_frame {s : State} {l : List Byte} {k i : Nat} {b : Byte} (hr : s.mainRuns = true) (hb : s.abm.bus ≠ .off)
    (hf : s.busFrame? = some l) (hk : l[k]? = some b) (hi : i < 11) : s.busTransmit (11 * k + i) = (busBits b).getD i true := by
  have e : s.busLevels = l.flatMap busBits := by simp [State.busLevels, hr, hb, hf]
  unfold State.busTransmit
  rw [e]
  exact getD_flatMap_levels length_busBits hk hi

/-- A bus that is OFF, and a main domain that does not run, release the driver (R118). -/
theorem State.driverEnabled_stopped {s : State} (t : Nat) (h : s.mainRuns = false ∨ s.abm.bus = .off) : s.driverEnabled t = false := by
  rcases h with h | h <;> simp [State.driverEnabled, State.busLevels, h]

/-- While a reply goes out, the transmit pin gives the bits of its bytes in order (R170). -/
theorem State.hostTransmit_frame {s : State} {r : Reply} {k i : Nat} {b : Byte} (hr : s.mainRuns = true) (hs : s.link.receiver = .send r)
    (hk : r.frame[k]? = some b) (hi : i < 10) : s.hostTransmit (10 * k + i) = (hostBits b).getD i true := by
  have e : s.hostLevels = r.frame.flatMap hostBits := by simp [State.hostLevels, hs, hr]
  unfold State.hostTransmit
  rw [e]
  exact getD_flatMap_levels length_hostBits hk hi

/-- The host link stands at the mark level outside a reply (R170). -/
theorem State.hostTransmit_idle {s : State} (t : Nat) (h : s.mainRuns = false ∨ ∀ r, s.link.receiver ≠ .send r) : s.hostTransmit t = true := by
  have e : s.hostLevels = [] := by
    unfold State.hostLevels
    split
    · rename_i r hr
      rcases h with h | h
      · simp [h]
      · exact absurd hr (h r)
    all_goals rfl
  simp [State.hostTransmit, e]

end Sys2Proof.Machine
end

