-- ==== Sys2Proof/Laws/Cycles.lean ====
section
/-! SUPPORT. What follows an attempt or a wait: for each function of the bus master that ends a cycle, a POLL phase, a sweep or the bus, one lemma
in the terms of the statements. -/

namespace Sys2Proof.Machine

/-! ### The poll's next entry (R130, R150) -/

theorem isPresent_iff (s : State) (x : NodeEntry) : isPresent s x ↔ x ∈ s.presentNodes := by
  unfold isPresent State.presentNodes State.removing
  rw [List.mem_filter]
  refine and_congr_right fun _ => ?_
  cases h : s.atu.op with
  | none => simp
  | some op =>
    cases op with
    | insertion h => simp
    | removal y why => simp [Ne, eq_comm (a := y)]

theorem State.nextEntry_none_iff (s : State) (c : Cycle) : s.nextEntry c = none ↔ ∀ e, isPresent s e → ¬isAhead s c e := by
  have h : ∀ (l : List NodeEntry) (b : Option NodeEntry), l.foldl (earlier s.abm.rotation) b = none ↔ b = none ∧ l = [] := by
    intro l
    induction l with
    | nil => simp
    | cons x l ih =>
      intro b
      rw [List.foldl_cons, ih]
      cases b with
      | none => simp [earlier]
      | some b => simp only [earlier]; split <;> simp
  unfold State.nextEntry
  rw [h]
  simp only [isPresent_iff, isAhead_iff, true_and, List.filter_eq_nil_iff]

/-- The entry that the rules call next is the one that is taken. -/
theorem State.nextEntry_of_isNextEntry {s : State} {c : Cycle} {e : NodeEntry} (h : isNextEntry s c e) : s.nextEntry c = some e := by
  have k : ∀ (l : List NodeEntry) (b : Option NodeEntry),
      (∀ x, x ∈ l ∨ b = some x → x = e ∨ rotationKey s.abm.rotation e.serial < rotationKey s.abm.rotation x.serial) →
      (e ∈ l ∨ b = some e) → l.foldl (earlier s.abm.rotation) b = some e := by
    intro l
    induction l with
    | nil => intro b _ hm; simpa using hm
    | cons x l ih =>
      intro b hl hm
      rw [List.foldl_cons]
      have hx := hl x (.inl (by simp))
      cases b with
      | none =>
        refine ih _ (fun y hy => ?_) ?_
        · rcases hy with hy | hy
          · exact hl y (.inl (by simp [hy]))
          · obtain rfl : x = y := by simpa [earlier] using hy
            exact hx
        · simpa [earlier, eq_comm, or_comm] using hm
      | some b =>
        have hb := hl b (.inr rfl)
        simp only [earlier]
        split
        · rename_i hlt
          refine ih _ (fun y hy => ?_) ?_
          · rcases hy with hy | hy
            · exact hl y (.inl (by simp [hy]))
            · rw [Option.some.injEq] at hy; exact hy ▸ hx
          · rcases hm with hm | hm
            · rcases List.mem_cons.1 hm with rfl | hm
              · exact .inr rfl
              · exact .inl hm
            · rw [Option.some.injEq] at hm
              subst hm
              rcases hx with rfl | hx
              · exact .inr rfl
              · exact absurd hlt (by omega)
        · rename_i hlt
          refine ih _ (fun y hy => ?_) ?_
          · rcases hy with hy | hy
            · exact hl y (.inl (by simp [hy]))
            · exact hl y (.inr hy)
          · rcases hm with hm | hm
            · rcases List.mem_cons.1 hm with rfl | hm
              · rcases hb with rfl | hb
                · exact .inr rfl
                · exact absurd hb hlt
              · exact .inl hm
            · exact .inr hm
  obtain ⟨⟨hp, ha⟩, hn⟩ := h
  refine k _ _ (fun x hx => ?_) (.inl (List.mem_filter.2 ⟨(isPresent_iff s e).1 hp, (isAhead_iff s c e).1 ha⟩))
  rcases hx with hx | hx
  · obtain ⟨h1, h2⟩ := List.mem_filter.1 hx
    exact hn x ((isPresent_iff s x).2 h1) ((isAhead_iff s c x).2 h2)
  · cases hx

/-! ### Closes (R16, R17) -/

theorem State.closeIfArmed_zone (cause : CloseCause) (s : State) (x z : ZoneNo) : (s.closeIfArmed cause x).zones[z] =
    if z = x ∧ s.zones[x].state = .armed then s.zones[x].close cause s.abm.cycleNumber s.zones[x].armed else s.zones[z] := by
  unfold State.closeIfArmed
  by_cases h : s.zones[x].state = .armed
  · rw [if_pos h]
    by_cases e : z = x
    · subst e
      simp only [h, and_self, if_true]
      exact State.closeZone_zone ..
    · rw [if_neg (by simp [e])]
      exact State.closeZone_zone_other s _ _ (Ne.symm e)
  · rw [if_neg h, if_neg fun k => h k.2]

theorem State.closeIfArmed_channel (cause : CloseCause) (s : State) (x : ZoneNo) (c : ChannelNo) : (s.closeIfArmed cause x).channels[c] =
    if s.channels[c].zone = some x ∧ s.zones[x].state = .armed then s.channels[c].close else s.channels[c] := by
  unfold State.closeIfArmed
  by_cases h : s.zones[x].state = .armed
  · rw [if_pos h]
    simp only [h, and_true]
    exact State.closeZone_channel ..
  · rw [if_neg h, if_neg fun k => h k.2]

theorem State.closeIfArmed_rest (cause : CloseCause) (s : State) (x : ZoneNo) :
    (s.closeIfArmed cause x).queue = s.queue ++ [x].filter (fun z => s.zones[z].state == .armed) ∧ (s.closeIfArmed cause x).abm = s.abm := by
  unfold State.closeIfArmed
  by_cases h : s.zones[x].state = .armed
  · rw [if_pos h]
    exact ⟨by rw [State.closeZone_queue, List.filter_cons_of_pos (by simpa using h), List.filter_nil], rfl⟩
  · rw [if_neg h, List.filter_cons_of_neg (by simpa using h), List.filter_nil, List.append_nil]
    exact ⟨rfl, rfl⟩

theorem State.foldl_closeIfArmed_closes (cause : CloseCause) (l : List ZoneNo) (s : State) (hl : l.Nodup) :
    (∀ z ∈ l, s.zones[z].state = .armed →
      (l.foldl (State.closeIfArmed cause) s).zones[z] = s.zones[z].close cause s.abm.cycleNumber s.zones[z].armed) ∧
    (∀ z, z ∉ l ∨ s.zones[z].state ≠ .armed → (l.foldl (State.closeIfArmed cause) s).zones[z] = s.zones[z]) ∧
    (∀ c : ChannelNo, (∃ z ∈ l, s.channels[c].zone = some z ∧ s.zones[z].state = .armed) →
      (l.foldl (State.closeIfArmed cause) s).channels[c] = s.channels[c].close) ∧
    (∀ c : ChannelNo, (∀ z ∈ l, s.channels[c].zone = some z → s.zones[z].state ≠ .armed) →
      (l.foldl (State.closeIfArmed cause) s).channels[c] = s.channels[c]) ∧
    (l.foldl (State.closeIfArmed cause) s).queue = s.queue ++ l.filter fun z => s.zones[z].state == .armed := by
  induction l generalizing s with
  | nil => simp
  | cons x l ih =>
    obtain ⟨hx, hl⟩ := List.nodup_cons.1 hl
    obtain ⟨i1, i2, i3, i4, i5⟩ := ih (s.closeIfArmed cause x) hl
    obtain ⟨rq, ra⟩ := s.closeIfArmed_rest cause x
    have zo : ∀ z ∈ l, (s.closeIfArmed cause x).zones[z] = s.zones[z] := fun z hz => by
      rw [State.closeIfArmed_zone, if_neg]
      rintro ⟨rfl, -⟩
      exact hx hz
    have zc : ∀ z : Zone, (z.close cause s.abm.cycleNumber z.armed).state = .queued := fun _ => rfl
    have cz : ∀ c : ChannelNo, (s.closeIfArmed cause x).channels[c].zone = s.channels[c].zone := fun c => by
      rw [State.closeIfArmed_channel]; split <;> rfl
    rw [ra] at i1
    simp only [List.foldl_cons]
    refine ⟨fun z hz h => ?_, fun z h => ?_, fun c hc => ?_, fun c hc => ?_, ?_⟩
    · rcases List.mem_cons.1 hz with rfl | hz
      · rw [i2 z (.inl hx), State.closeIfArmed_zone, if_pos ⟨rfl, h⟩]
      · rw [i1 z hz (by rw [zo z hz]; exact h), zo z hz]
    · by_cases e : z = x
      · subst e
        rw [i2 z (.inl hx), State.closeIfArmed_zone, if_neg]
        rintro ⟨-, k⟩
        rcases h with h | h
        · exact h (by simp)
        · exact h k
      · have e1 : (s.closeIfArmed cause x).zones[z] = s.zones[z] := by rw [State.closeIfArmed_zone, if_neg (by simp [e])]
        rw [i2 z (by rw [e1]; exact h.imp_left fun h k => h (List.mem_cons_of_mem _ k)), e1]
    · obtain ⟨z, hz, h1, h2⟩ := hc
      rcases List.mem_cons.1 hz with rfl | hz
      · rw [i4 c, State.closeIfArmed_channel, if_pos ⟨h1, h2⟩]
        intro y hy hc
        rw [cz, h1, Option.some.injEq] at hc
        exact absurd (hc ▸ hy) hx
      · rw [i3 c ⟨z, hz, by rw [cz]; exact h1, by rw [zo z hz]; exact h2⟩, State.closeIfArmed_channel, if_neg]
        rintro ⟨k, -⟩
        rw [h1, Option.some.injEq] at k
        exact hx (k ▸ hz)
    · rw [i4 c fun z hz h => by rw [cz] at h; rw [zo z hz]; exact hc z (List.mem_cons_of_mem _ hz) h]
      rw [State.closeIfArmed_channel, if_neg]
      rintro ⟨k, h⟩
      exact hc x (by simp) k h
    · rw [i5, rq, List.append_assoc, List.append_cancel_left_eq, ← List.singleton_append (l := l), List.filter_append,
        List.append_cancel_left_eq]
      exact List.filter_congr fun z hz => by rw [zo z hz]

/-- Every ARMED zone closes, each with its channels, and nothing else of zones and channels changes (R16 to R18). -/
theorem State.closeArmed_closes (s : State) (cause : CloseCause) : closesArmed cause s.abm.cycleNumber s (s.closeArmed cause) := by
  obtain ⟨h1, h2, h3, h4, h5⟩ := State.foldl_closeIfArmed_closes cause allZones s (by decide)
  exact ⟨fun z => h1 z (mem_allZones z), fun z h => h2 z (.inr h), fun c ⟨z, h⟩ => h3 c ⟨z, mem_allZones z, h⟩,
    fun c h => h4 c fun z _ => h z, h5⟩

/-! ### The stop, the cycle and the sweep (R125, R126, R139, R143) -/

/-- The stop takes effect; a sweep waits no more for an act handed over. -/
theorem State.busStop_stops (s : State) : busStops (s.hand (s.atu.handed.map HandedAct.detach)) s.busStop := by
  have h := s.closeArmed_closes .busStop
  obtain ⟨z, c, q, f⟩ : ∃ z c q, s.closeArmed .busStop = ((s.withZones z).withChannels c).withQueue q := ⟨_, _, _, s.closeArmed_frame _⟩
  unfold State.busStop
  rw [f] at h ⊢
  by_cases ha : s.abm.sweep.active = true
  · simp only [State.withQueue_abm, State.withChannels_abm, State.withZones_abm, ha, if_true]
    exact ⟨h, rfl, rfl, rfl, fun k => absurd (ha.symm.trans k) (by decide), fun _ => ⟨rfl, rfl⟩⟩
  · simp only [State.withQueue_abm, State.withChannels_abm, State.withZones_abm, ha]
    exact ⟨h, rfl, rfl, rfl, fun _ => ⟨rfl, rfl⟩, fun k => absurd k ha⟩

/-- With nothing handed over that waits for the sweep, the stop leaves the ATU as it is. -/
theorem State.busStop_stops_of_detached {s : State} (h : ∀ a, s.atu.handed = some a → a.range = none) : busStops s s.busStop := by
  obtain ⟨h1, h2, h3, h4, h5⟩ := s.busStop_stops
  have e : s.atu.handed.map HandedAct.detach = s.atu.handed := by
    cases k : s.atu.handed with
    | none => rfl
    | some a =>
      have := h a k
      cases a <;> simp_all [HandedAct.range, HandedAct.detach]
  exact ⟨h1, h2, h3, h4.trans (by simp only [State.hand]; rw [e]; rfl), h5⟩

/-- Only the rotation position follows from where POLL was cut. -/
theorem State.deferRest_rotates {s : State} {c : Cycle} (h : s.abm.cycle = some c) : ∃ r, s.deferRest = s.withRotation r ∧
    (c.phase ≠ .poll → r = s.abm.rotation) ∧ (∀ e, c.phase = .poll → isNextEntry s c e → r = e.serial) ∧
    (c.phase = .poll → (∀ e, isPresent s e → ¬isAhead s c e) → r = s.abm.rotation) := by
  unfold State.deferRest
  simp only [h]
  by_cases hp : c.phase = .poll
  · rw [if_pos hp]
    cases k : s.nextEntry c with
    | none =>
      refine ⟨s.abm.rotation, rfl, fun _ => rfl, fun e _ he => ?_, fun _ _ => rfl⟩
      rw [State.nextEntry_of_isNextEntry he] at k
      cases k
    | some x =>
      refine ⟨x.serial, rfl, fun n => absurd hp n, fun e _ he => ?_, fun _ hn => ?_⟩
      · rw [State.nextEntry_of_isNextEntry he, Option.some.injEq] at k
        rw [k]
      · rw [(s.nextEntry_none_iff c).2 hn] at k
        cases k
  · rw [if_neg hp]
    exact ⟨s.abm.rotation, rfl, fun _ => rfl, fun _ k => absurd k hp, fun k => absurd k hp⟩

/-- Only the overrun total and its flag follow from the time. -/
theorem State.noteOverrun_counts {s : State} {c : Cycle} (h : s.abm.cycle = some c) : ∃ k l,
    s.noteOverrun = (s.withAbm { s.abm with totals := k }).withLink l ∧
    ((c.elapsed ≤ c.budget ∧ l = s.link ∧ k = s.abm.totals) ∨
      (c.budget ≤ c.elapsed ∧ l = { s.link with flags := { s.link.flags with cycleOverrun := true } } ∧
        k = { s.abm.totals with overruns := min (s.abm.totals.overruns + 1) (2 ^ 32 - 1) })) := by
  have e : s.noteOverrun = if c.overran then (s.countTotal .addOverrun).flag .raiseCycleOverrun else s := by
    unfold State.noteOverrun
    rw [h]
  by_cases o : c.overran = true
  · rw [if_pos o] at e
    refine ⟨_, _, e, .inr ⟨?_, rfl, by simp [BusTotals.addOverrun, inc32_eq_min]⟩⟩
    simp only [Cycle.overran, Bool.or_eq_true, decide_eq_true_eq, Bool.and_eq_true, beq_iff_eq] at o
    omega
  · rw [if_neg o] at e
    refine ⟨_, _, e, .inl ⟨?_, rfl, rfl⟩⟩
    simp only [Cycle.overran, Bool.or_eq_true, decide_eq_true_eq, not_or] at o
    omega

/-- The automatic sweep at a beacon instant (R126 step 5, R138). -/
theorem State.automaticSweep_counts (s : State) : ∃ sw n, s.automaticSweep = s.withAbm { s.abm with sweep := sw, sweepCount := n } ∧
    (s.abm.config.sweepInterval = 0 → sw = s.abm.sweep ∧ n = s.abm.sweepCount) ∧
    (0 < s.abm.config.sweepInterval → s.abm.sweep.active = true → sw = s.abm.sweep ∧ n = min (s.abm.sweepCount + 1) 255) ∧
    (0 < s.abm.config.sweepInterval → min (s.abm.sweepCount + 1) 255 < s.abm.config.sweepInterval →
      sw = s.abm.sweep ∧ n = min (s.abm.sweepCount + 1) 255) ∧
    (0 < s.abm.config.sweepInterval → s.abm.sweep.active = false → s.abm.config.sweepInterval ≤ min (s.abm.sweepCount + 1) 255 →
      sw = ⟨true, [⟨0x00000000#32, 0xFFFFFFFF#32⟩]⟩ ∧ n = 0) := by
  unfold State.automaticSweep
  by_cases hz : s.abm.config.sweepInterval = 0
  · rw [if_pos hz]
    exact ⟨_, _, rfl, fun _ => ⟨rfl, rfl⟩, fun k => absurd hz (by omega), fun k => absurd hz (by omega), fun k => absurd hz (by omega)⟩
  · rw [if_neg hz]
    have m : satAdd 255 s.abm.sweepCount 1 = min (s.abm.sweepCount + 1) 255 := satAdd_eq_min ..
    simp only [m]
    by_cases hs : s.abm.config.sweepInterval ≤ min (s.abm.sweepCount + 1) 255 ∧ s.abm.sweep.active = false
    · rw [if_pos hs]
      exact ⟨_, _, rfl, fun k => absurd k hz, fun _ k => absurd (k.symm.trans hs.2) (by decide), fun _ k => absurd hs.1 (by omega),
        fun _ _ _ => ⟨rfl, rfl⟩⟩
    · rw [if_neg hs]
      exact ⟨_, _, rfl, fun k => absurd k hz, fun _ _ => ⟨rfl, rfl⟩, fun _ _ => ⟨rfl, rfl⟩, fun _ k l => absurd ⟨l, k⟩ hs⟩

/-- A cycle ends with the next beacon instant. -/
theorem State.beginCycle_ends {s : State} {c : Cycle} (h : s.abm.cycle = some c) : cycleEnds s c s.beginCycle := by
  obtain ⟨r, hr, r1, r2, r3⟩ := State.deferRest_rotates h
  obtain ⟨k, l, hk, hl⟩ := State.noteOverrun_counts (s := s.withRotation r) (c := c) h
  obtain ⟨v, hv⟩ : ∃ v, v = ((s.withRotation r).withAbm { (s.withRotation r).abm with totals := k }).withLink l := ⟨_, rfl⟩
  have h1 := (v.withAbm v.abm.newCycle).closeArmed_closes .cycleEnd
  obtain ⟨z, ch, q, f⟩ : ∃ z c q, (v.withAbm v.abm.newCycle).closeArmed .cycleEnd = (((v.withAbm v.abm.newCycle).withZones z).withChannels c).withQueue q :=
    ⟨_, _, _, State.closeArmed_frame _ _⟩
  obtain ⟨sw, n, ha, a1, a2, a3, a4⟩ := ((((v.withAbm v.abm.newCycle).withZones z).withChannels ch).withQueue q |>.countBus .addCycle).automaticSweep_counts
  have e : s.beginCycle = ((((v.withAbm v.abm.newCycle).closeArmed .cycleEnd).countBus .addCycle).automaticSweep) := by
    unfold State.beginCycle
    simp only [hr, hk, ← hv]
  rw [f, ha] at e
  rw [f] at h1
  rw [e]
  subst hv
  exact ⟨⟨h1, rfl, rfl, rfl, rfl, sw, n, rfl, a1, a2, a3, a4⟩, r1, r2, r3, hl⟩

/-- A popped range is split, dropped, or ends the sweep. -/
theorem State.splitRange_halved {s : State} {c : Cycle} {r : Range} (h : s.abm.cycle = some c) (hp : c.phase = .sweep) :
    s.splitRange r false = s.halved c r := by
  have u : r.upper = ⟨BitVec.ofNat 32 ((r.lo.toNat + r.hi.toNat) / 2 + 1), r.hi⟩ := by
    simp [Range.upper, Range.mid, BitVec.ofNat_add]
  unfold State.splitRange State.halved
  split
  · split
    · rw [u]; rfl
    · simp [State.endSweep, State.sweepOver, State.flag, h, hp, EventFlags.raiseSweepDone, State.withAbm]
  · rfl

/-- The state after a popped range keeps the ATU and what is in hand. -/
theorem State.halved_keeps (s : State) (c : Cycle) (r : Range) :
    (s.halved c r).atu = s.atu ∧ (s.halved c r).abm.activity = s.abm.activity := by
  unfold State.halved
  split
  · split <;> exact ⟨rfl, rfl⟩
  · exact ⟨rfl, rfl⟩

theorem State.endSweep_over {s : State} {c : Cycle} (o : SweepOutcome) (h : s.abm.cycle = some c) (hp : c.phase = .sweep) :
    s.endSweep o = s.sweepOver c o := by
  simp [State.endSweep, State.sweepOver, State.flag, h, hp, EventFlags.raiseSweepDone, State.withAbm]

theorem State.canStart_iff {s : State} {c : Cycle} (hb : s.abm.bus = .running) (h : s.abm.cycle = some c) :
    s.canStart = true ↔ mayStart s c := by
  simp [State.canStart, hb, h, Cycle.allows]

theorem State.toPhase_waiting {s : State} {c : Cycle} (h : s.abm.cycle = some c) (ha : s.abm.activity = .none) :
    s.toPhase .wait = s.waiting c := by
  simp only [State.toPhase, State.updCycle, State.withCycle, State.waiting, h, Option.map_some]
  rw [← ha]

theorem BusCounters.addTransaction_eq (k : BusCounters) : k.addTransaction = k.oneMore := by
  simp [BusCounters.addTransaction, BusCounters.oneMore, inc32_eq_min]

theorem State.popped_asked (s : State) (g : Range) (rest : List Range) :
    ((s.withStack rest).countBus .addTransaction).startAttempt (.rollCall g) 1 = s.asked g rest := by
  simp only [State.withStack, State.countBus, State.startAttempt, State.withActivity, BusCounters.addTransaction_eq]
  rfl

/-- A cycle with nothing in hand goes on, or ends when its budget has run out. -/
theorem State.spent_goesOn {s : State} {c : Cycle} (h : s.abm.cycle = some c) : goesOn s c (if c.spent then s.beginCycle else s) := by
  constructor
  · intro k
    rw [if_neg (by simp [Cycle.spent]; omega)]
  · intro k
    rw [if_pos (by simpa [Cycle.spent] using k)]
    exact State.beginCycle_ends h

/-- What the bus master does when an attempt or a wait has ended with nothing handed over. -/
theorem State.stopOrProceed_worksOn {s : State} (hh : s.atu.handed = none) (ha : s.abm.activity = .none) : worksOn s s.stopOrProceed := by
  constructor
  · intro hb
    unfold State.stopOrProceed
    rw [if_pos hb, if_neg (by simp [State.stopWaits, ha, hh])]
    exact State.busStop_stops_of_detached (by simp [hh])
  · intro c hb h
    have e : s.stopOrProceed = s.proceed := by
      unfold State.stopOrProceed
      rw [if_neg (by rw [hb]; decide), if_pos ⟨hh, ha⟩]
    rw [e]
    constructor
    · intro hp
      have e : s.proceed = if c.spent then s.beginCycle else s := by
        unfold State.proceed
        simp only [h, hp, if_false, ha]
      exact e ▸ State.spent_goesOn h
    · intro hp
      have step : ∀ u d, s.sweepStep = u → u.abm.cycle = some d → u.abm.activity = .none → goesOn u d s.proceed := by
        intro u d hu hd hn
        have e : s.proceed = if d.spent then u.beginCycle else u := by
          unfold State.proceed
          simp only [h, hp, if_true, hu, hd, hn]
        exact e ▸ State.spent_goesOn hd
      constructor
      · intro hs
        refine step _ _ ?_ rfl (by simpa [State.sweepOver] using ha)
        unfold State.sweepStep
        rw [hs]
        exact State.endSweep_over _ h hp
      · intro g rest hs
        constructor
        · intro hm
          have e : s.sweepStep = s.asked g rest := by
            unfold State.sweepStep
            rw [hs]
            simp only [(State.canStart_iff hb h).2 hm, if_true]
            exact s.popped_asked g rest
          unfold State.proceed
          simp only [h, hp, if_true, e]
          rw [show (s.asked g rest).abm.cycle = some c from h, show (s.asked g rest).abm.activity = .attempt (.rollCall g) 1 none from rfl]
        · intro hm
          refine step _ _ ?_ rfl rfl
          unfold State.sweepStep
          rw [hs]
          simp only [mt (State.canStart_iff hb h).1 hm]
          exact State.toPhase_waiting h ha

/-- An ENROLL begins, or the guard or a stop prevents it and the range goes back on the stack (R142). -/
theorem State.startEnroll_follows {s : State} {c : Cycle} (g : Range) (x : Serial) (hh : s.atu.handed = none) (ha : s.abm.activity = .none)
    (hc : s.abm.cycle = some c) :
    (s.abm.bus = .running → mayStart s c → (s.startEnroll g x).stopOrProceed = s.withAbm { s.abm with
      activity := .attempt (.enroll g x) 1 none, counters := s.abm.counters.oneMore }) ∧
    (s.abm.bus = .stopping ∨ ¬mayStart s c → worksOn ((s.restacked g).waiting c) (s.startEnroll g x).stopOrProceed) := by
  unfold State.startEnroll
  refine ⟨fun hb hm => ?_, fun hm => ?_⟩
  · rw [if_pos ((State.canStart_iff hb hc).2 hm)]
    have e : (s.countBus .addTransaction).startAttempt (.enroll g x) 1 = s.withAbm { s.abm with
        activity := .attempt (.enroll g x) 1 none, counters := s.abm.counters.oneMore } := by
      simp [State.countBus, State.startAttempt, State.withActivity, BusCounters.addTransaction_eq]
    rw [e]
    unfold State.stopOrProceed
    rw [if_neg (by simp [hb]), if_neg (by simp)]
  · rw [if_neg, show (s.pushBack g).toPhase .wait = (s.restacked g).waiting c from State.toPhase_waiting (s := s.pushBack g) hc ha]
    · exact State.stopOrProceed_worksOn hh rfl
    · intro k
      by_cases hr : s.abm.bus = .running
      · rcases hm with hm | hm
        · rw [hr] at hm; cases hm
        · exact hm ((State.canStart_iff hr hc).1 k)
      · simp [State.canStart, hr] at k

/-- The end of an attempt with nothing handed over and no attempt to follow. -/
theorem State.afterAttempt_worksOn {s : State} (hh : s.atu.handed = none) (ha : s.abm.activity = .none) : worksOn s s.afterAttempt := by
  unfold State.afterAttempt
  by_cases hb : s.abm.bus = .stopping
  · rw [if_pos hb]
    exact ⟨fun _ => State.busStop_stops_of_detached (by simp [hh]), fun c k => absurd (hb.symm.trans k) (by decide)⟩
  · rw [if_neg hb]
    exact State.stopOrProceed_worksOn hh ha

/-- With an attempt in hand or an act handed over, a RUNNING bus goes no further. -/
theorem State.stopOrProceed_same {s : State} (hb : s.abm.bus ≠ .stopping) (h : s.atu.handed ≠ none ∨ s.abm.activity ≠ .none) :
    s.stopOrProceed = s := by
  unfold State.stopOrProceed
  rw [if_neg hb, if_neg]
  exact fun k => h.elim (fun n => n k.1) fun n => n k.2

theorem State.afterAttempt_same {s : State} (hb : s.abm.bus = .running) (h : s.atu.handed ≠ none ∨ s.abm.activity ≠ .none) :
    s.afterAttempt = s := by
  have n : s.abm.bus ≠ .stopping := by rw [hb]; decide
  unfold State.afterAttempt
  rw [if_neg n, State.stopOrProceed_same n h]

theorem State.afterAttempt_stops {s : State} (hb : s.abm.bus = .stopping) :
    busStops (s.hand (s.atu.handed.map HandedAct.detach)) s.afterAttempt := by
  unfold State.afterAttempt
  rw [if_pos hb]
  exact s.busStop_stops

/-- POLL ends with every entry reached. -/
theorem State.endPoll_pollEnds {s : State} {c : Cycle} (hb : s.abm.bus = .running) (ha : s.abm.activity = .none) (h : s.abm.cycle = some c) :
    pollEnds s c s.endPoll := by
  have hc : (s.toPhase .sweep).abm.cycle = some { c with phase := .sweep } := by simp [State.toPhase, State.updCycle, State.withCycle, h]
  have e : s.toPhase .sweep = s.withAbm { s.abm with cycle := some { c with phase := .sweep } } := by
    simp [State.toPhase, State.updCycle, State.withCycle, h]
  unfold State.endPoll
  constructor
  · intro k
    rw [if_neg (by simp [k])]
    exact State.toPhase_waiting h ha
  · intro k
    rw [if_pos k]
    constructor
    · intro hs
      unfold State.sweepStep
      rw [show (s.toPhase .sweep).abm.sweep.stack = [] from hs]
      simp only
      rw [State.endSweep_over _ hc rfl, e]
      rfl
    · intro g rest hs
      unfold State.sweepStep
      rw [show (s.toPhase .sweep).abm.sweep.stack = g :: rest from hs]
      simp only
      have hm := State.canStart_iff (s := s.toPhase .sweep) hb hc
      constructor
      · intro k
        rw [if_pos (hm.2 k), e]
        exact State.popped_asked _ g rest
      · intro k
        rw [if_neg (mt hm.1 k), State.toPhase_waiting hc ha, e]
        rfl

end Sys2Proof.Machine
end

