-- ==== Sys2Proof/Laws/Frames.lean ====
section
/-! SUPPORT. What the shared operations of the bus, the nodes, the converter, the integrator and the supervisor leave alone: one lemma for each, cited
instead of unfolding it. -/

namespace Sys2Proof.Machine

/-! ### The bus master's operations -/

/-- From `s` to `t` nothing has changed beside the bus: no node, no free value, and in LINK flags alone. -/
def State.BusOnly (s t : State) : Prop :=
  t.besideBus = s.besideBus ∧ t.nodes = s.nodes ∧ t.freeUses = s.freeUses ∧ t.link.besideFlags = s.link.besideFlags

theorem State.BusOnly.refl (s : State) : s.BusOnly s := ⟨rfl, rfl, rfl, rfl⟩

theorem State.BusOnly.trans {s t u : State} (h : s.BusOnly t) (k : t.BusOnly u) : s.BusOnly u :=
  ⟨k.1.trans h.1, k.2.1.trans h.2.1, k.2.2.1.trans h.2.2.1, k.2.2.2.trans h.2.2.2⟩

theorem State.withAbm_busOnly (s : State) (a : Abm) : s.BusOnly (s.withAbm a) := ⟨rfl, rfl, rfl, rfl⟩

theorem State.hand_busOnly (s : State) (a : Option HandedAct) : s.BusOnly (s.hand a) := ⟨rfl, rfl, rfl, rfl⟩

theorem State.flag_busOnly (s : State) (f : EventFlags → EventFlags) : s.BusOnly (s.flag f) := ⟨rfl, rfl, rfl, rfl⟩

theorem State.countBus_busOnly (s : State) (f : BusCounters → BusCounters) : s.BusOnly (s.countBus f) := ⟨rfl, rfl, rfl, rfl⟩

theorem State.closes_busOnly (s : State) (z : Vector Zone 16) (c : Vector Channel 8) (q : List ZoneNo) :
    s.BusOnly (((s.withZones z).withChannels c).withQueue q) := ⟨rfl, rfl, rfl, rfl⟩

theorem State.closeArmed_busOnly (s : State) (c : CloseCause) : s.BusOnly (s.closeArmed c) := by
  rw [State.closeArmed_frame]
  exact s.closes_busOnly _ _ _

theorem State.endSweep_busOnly (s : State) (o : SweepOutcome) : s.BusOnly (s.endSweep o) := ⟨rfl, rfl, rfl, rfl⟩

theorem State.splitRange_busOnly (s : State) (r : Range) (u : Bool) : s.BusOnly (s.splitRange r u) := by
  unfold State.splitRange
  split
  · split
    · exact ⟨rfl, rfl, rfl, rfl⟩
    · exact s.endSweep_busOnly _
  · split
    · exact ⟨rfl, rfl, rfl, rfl⟩
    · exact .refl s

theorem State.sweepStep_busOnly (s : State) : s.BusOnly s.sweepStep := by
  unfold State.sweepStep
  split
  · exact s.endSweep_busOnly _
  · split <;> exact ⟨rfl, rfl, rfl, rfl⟩

theorem State.startEnroll_busOnly (s : State) (r : Range) (x : Serial) : s.BusOnly (s.startEnroll r x) := by
  unfold State.startEnroll
  split <;> exact ⟨rfl, rfl, rfl, rfl⟩

theorem State.endPoll_busOnly (s : State) : s.BusOnly s.endPoll := by
  unfold State.endPoll
  split
  · exact .trans (t := s.toPhase .sweep) ⟨rfl, rfl, rfl, rfl⟩ (State.sweepStep_busOnly _)
  · exact ⟨rfl, rfl, rfl, rfl⟩

theorem State.deferRest_busOnly (s : State) : s.BusOnly s.deferRest := by
  unfold State.deferRest
  split
  · split
    · split
      · exact ⟨rfl, rfl, rfl, rfl⟩
      · exact .refl s
    · exact .refl s
  · exact .refl s

theorem State.noteOverrun_busOnly (s : State) : s.BusOnly s.noteOverrun := by
  unfold State.noteOverrun
  split
  · split
    · exact ⟨rfl, rfl, rfl, rfl⟩
    · exact .refl s
  · exact .refl s

theorem State.automaticSweep_busOnly (s : State) : s.BusOnly s.automaticSweep := by
  unfold State.automaticSweep
  split
  · exact .refl s
  · simp only
    split <;> exact ⟨rfl, rfl, rfl, rfl⟩

theorem State.beginCycle_busOnly (s : State) : s.BusOnly s.beginCycle := by
  have h (t : State) : t.BusOnly (((t.withAbm t.abm.newCycle).closeArmed .cycleEnd).countBus BusCounters.addCycle).automaticSweep :=
    (t.withAbm_busOnly _).trans ((State.closeArmed_busOnly _ _).trans ((State.countBus_busOnly _ _).trans (State.automaticSweep_busOnly _)))
  exact (s.deferRest_busOnly.trans (State.noteOverrun_busOnly _)).trans (h _)

theorem State.proceed_busOnly (s : State) : s.BusOnly s.proceed := by
  have h : s.BusOnly (match s.abm.cycle with
      | some c => if c.phase = Phase.sweep then s.sweepStep else s
      | none => s) := by
    split
    · split
      · exact s.sweepStep_busOnly
      · exact .refl s
    · exact .refl s
  unfold State.proceed
  simp only
  split
  · split
    · exact h.trans (State.beginCycle_busOnly _)
    · exact h
  · exact h

theorem State.busStop_busOnly (s : State) : s.BusOnly s.busStop := by
  have h (t : State) : t.BusOnly (if t.abm.sweep.active then t.endSweep .abortedStop else t) := by
    split
    · exact t.endSweep_busOnly _
    · exact .refl t
  have k (u : State) : u.BusOnly ((u.withAbm { u.abm with bus := .off, cycle := none, activity := .none }).hand
      (u.atu.handed.map HandedAct.detach)) := (u.withAbm_busOnly _).trans (State.hand_busOnly _ _)
  unfold State.busStop
  exact ((s.closeArmed_busOnly _).trans (h _)).trans (k _)

theorem State.stopOrProceed_busOnly (s : State) : s.BusOnly s.stopOrProceed := by
  unfold State.stopOrProceed
  split
  · split
    · exact .refl s
    · exact s.busStop_busOnly
  · split
    · exact s.proceed_busOnly
    · exact .refl s

theorem State.readFailed_busOnly (s : State) (x : Serial) (e : Bool) (n : Nat) : s.BusOnly (s.readFailed x e n) := by
  unfold State.readFailed
  split
  · split
    · exact ⟨rfl, rfl, rfl, rfl⟩
    · split <;> exact ⟨rfl, rfl, rfl, rfl⟩
  · exact ⟨rfl, rfl, rfl, rfl⟩

theorem State.readEnd_busOnly (s : State) (x : Serial) (e : Bool) (n : Nat) (reply : AttemptReply) : s.BusOnly (s.readEnd x e n reply) := by
  unfold State.readEnd
  simp only
  split
  · exact ⟨rfl, rfl, rfl, rfl⟩
  · refine (s.countBus_busOnly (readCount x e reply)).trans ?_
    unfold State.readOutcome
    split
    · split
      · exact State.readFailed_busOnly _ _ _ _
      · split <;> exact ⟨rfl, rfl, rfl, rfl⟩
    all_goals exact State.readFailed_busOnly _ _ _ _

theorem State.rollCallEnd_busOnly (s : State) (r : Range) (reply : AttemptReply) : s.BusOnly (s.rollCallEnd r reply) := by
  unfold State.rollCallEnd
  split
  · exact ⟨rfl, rfl, rfl, rfl⟩
  · split <;> exact ⟨rfl, rfl, rfl, rfl⟩
  all_goals exact (s.countBus_busOnly _).trans (State.splitRange_busOnly _ _ _)

theorem State.enrollFailed_busOnly (s : State) (r : Range) (x : Serial) (n : Nat) : s.BusOnly (s.enrollFailed r x n) := by
  unfold State.enrollFailed
  split
  · split <;> exact ⟨rfl, rfl, rfl, rfl⟩
  · exact s.splitRange_busOnly _ _

theorem State.enrollEnd_busOnly (s : State) (r : Range) (x : Serial) (n : Nat) (reply : AttemptReply) : s.BusOnly (s.enrollEnd r x n reply) := by
  unfold State.enrollEnd
  split
  · exact (s.countBus_busOnly _).trans (State.enrollFailed_busOnly _ _ _ _)
  · split
    · exact ⟨rfl, rfl, rfl, rfl⟩
    · exact (s.countBus_busOnly _).trans (State.enrollFailed_busOnly _ _ _ _)
  all_goals exact (s.countBus_busOnly _).trans (State.enrollFailed_busOnly _ _ _ _)

theorem State.attemptEnd_busOnly (s : State) (t : Transaction) (n : Nat) (reply : AttemptReply) : s.BusOnly (s.attemptEnd t n reply) := by
  have h (u : State) : u.BusOnly (u.judge t n reply) := by
    unfold State.judge
    split
    · exact u.readEnd_busOnly _ _ _ _
    · exact u.rollCallEnd_busOnly _ _
    · exact u.enrollEnd_busOnly _ _ _ _
  unfold State.attemptEnd State.afterAttempt
  refine .trans (t := (s.elapse (attemptLength t reply)).withActivity .none) ⟨rfl, rfl, rfl, rfl⟩ ((h _).trans ?_)
  split
  · exact State.busStop_busOnly _
  · exact State.stopOrProceed_busOnly _

theorem State.pollNext_busOnly (s : State) (c : Cycle) : s.BusOnly (s.pollNext c) := by
  unfold State.pollNext
  split
  · exact s.endPoll_busOnly
  · split <;> exact ⟨rfl, rfl, rfl, rfl⟩

theorem State.beaconSent_busOnly (s : State) : s.BusOnly s.beaconSent := by
  have h : s.BusOnly ((s.elapse 77).withActivity .none) := ⟨rfl, rfl, rfl, rfl⟩
  unfold State.beaconSent
  simp only
  split
  · exact h.trans (State.busStop_busOnly _)
  · split
    · exact h.trans ((State.withAbm_busOnly _ _).trans (State.endPoll_busOnly _))
    · exact h.trans (State.withAbm_busOnly _ _)

theorem State.receive_busOnly (s : State) (kind : Transaction → Bool) (reply : AttemptReply) : s.BusOnly (s.receive kind reply) := by
  unfold State.receive
  split
  · split
    · exact ⟨rfl, rfl, rfl, rfl⟩
    · exact .refl s
  · exact .refl s

/-! ### The attribution unit's operations -/

/-- The fields that no act on the nodes touches. -/
def State.besideNodes (s : State) :=
  (s.ssv, s.accounts, s.prices, s.band, s.queue, s.records, s.sen, s.ledgers, s.house, s.channels, s.inputs, s.tcv, s.points, s.freeUses, s.pending)

/-- From `s` to `t` nothing has changed but the bus master, the nodes, the unit, the zones and LINK's flags. -/
def State.NodesOnly (s t : State) : Prop := t.besideNodes = s.besideNodes ∧ t.link.besideFlags = s.link.besideFlags

theorem State.NodesOnly.refl (s : State) : s.NodesOnly s := ⟨rfl, rfl⟩

theorem State.NodesOnly.trans {s t u : State} (h : s.NodesOnly t) (k : t.NodesOnly u) : s.NodesOnly u :=
  ⟨k.1.trans h.1, k.2.trans h.2⟩

theorem State.withAbm_nodesOnly (s : State) (v : Abm) : s.NodesOnly (s.withAbm v) := ⟨rfl, rfl⟩

theorem State.withAtu_nodesOnly (s : State) (v : Atu) : s.NodesOnly (s.withAtu v) := ⟨rfl, rfl⟩

theorem State.withNodes_nodesOnly (s : State) (v : List NodeEntry) : s.NodesOnly (s.withNodes v) := ⟨rfl, rfl⟩

theorem State.withZones_nodesOnly (s : State) (v : Vector Zone 16) : s.NodesOnly (s.withZones v) := ⟨rfl, rfl⟩

theorem State.flag_nodesOnly (s : State) (f : EventFlags → EventFlags) : s.NodesOnly (s.flag f) := ⟨rfl, rfl⟩

theorem State.halt_nodesOnly (s : State) (e : NodeEntry) : s.NodesOnly (s.halt e) := by
  unfold State.halt
  split
  · exact .refl s
  · exact (s.withNodes_nodesOnly _).trans (State.flag_nodesOnly _ _)

theorem State.migrate_nodesOnly (s : State) (e : NodeEntry) (z : ZoneNo) : s.NodesOnly (s.migrate e z) := by
  unfold State.migrate
  split
  · exact .refl s
  · exact (s.withNodes_nodesOnly _).trans (State.withAbm_nodesOnly _ _)

theorem State.orphaned_nodesOnly (s : State) (u : Nat) : s.NodesOnly (s.orphaned u) :=
  (s.withAtu_nodesOnly _).trans (State.withAbm_nodesOnly _ _)

theorem State.quarantined_nodesOnly (s : State) (x : Serial) (u : Nat) : s.NodesOnly (s.quarantined x u) :=
  (s.withNodes_nodesOnly _).trans (State.withAtu_nodesOnly _ _)

theorem State.attribute_nodesOnly (s : State) (r : Reading) : s.NodesOnly (s.attribute r) := by
  unfold State.attribute
  split
  · exact (s.withZones_nodesOnly _).trans (State.withAtu_nodesOnly _ _)
  · simp only
    split
    · exact (s.withZones_nodesOnly _).trans (State.withAtu_nodesOnly _ _)
    · split <;> exact (s.withZones_nodesOnly _).trans (State.withAtu_nodesOnly _ _)

theorem State.destination_nodesOnly (s : State) (e : NodeEntry) (r : Reading) : s.NodesOnly (s.destination e r) := by
  unfold State.destination
  split
  · refine .trans (t := if r.status = .tamper then s.halt e else s) ?_ (State.orphaned_nodesOnly _ _)
    split
    · exact s.halt_nodesOnly e
    · exact .refl s
  · simp only
    refine .trans (s.migrate_nodesOnly e r.zone) ?_
    split
    · exact (State.halt_nodesOnly _ e).trans (State.quarantined_nodesOnly _ _ _)
    · split
      · exact State.quarantined_nodesOnly _ _ _
      · exact State.attribute_nodesOnly _ r

theorem State.accepted_nodesOnly (s : State) (r : Reading) : s.NodesOnly (s.accepted r) := by
  unfold State.accepted
  split
  · exact .refl s
  · exact ((s.withNodes_nodesOnly _).trans (State.withAtu_nodesOnly _ _)).trans (State.destination_nodesOnly _ _ _)

theorem State.missed_nodesOnly (s : State) (x : Serial) : s.NodesOnly (s.missed x) := by
  unfold State.missed
  split
  · exact .refl s
  · simp only
    split <;> split
    all_goals first
      | exact ((s.withNodes_nodesOnly _).trans (State.flag_nodesOnly _ _)).trans (State.withAtu_nodesOnly _ _)
      | exact (s.withNodes_nodesOnly _).trans (State.flag_nodesOnly _ _)
      | exact (s.withNodes_nodesOnly _).trans (State.withAtu_nodesOnly _ _)
      | exact s.withNodes_nodesOnly _

/-! ### The converter and the integrator -/

theorem State.beginRound_frame (s : State) : s.beginRound = s.withTcv s.beginRound.tcv := by
  unfold State.beginRound
  split <;> rfl

theorem State.nextGate_frame (s : State) (r : Round) : s.nextGate r = s.withTcv (s.nextGate r).tcv := by
  unfold State.nextGate
  split
  · exact s.beginRound_frame
  · rfl

theorem State.scanSetGrown_frame (s : State) : s.scanSetGrown = s.withTcv s.scanSetGrown.tcv := by
  unfold State.scanSetGrown
  split
  · exact s.beginRound_frame
  · rfl

theorem State.scanSetShrunk_frame (s : State) (c : ChannelNo) : s.scanSetShrunk c = s.withTcv (s.scanSetShrunk c).tcv := by
  unfold State.scanSetShrunk
  split
  · rfl
  · simp only
    split
    · rfl
    · split
      · rfl
      · split
        · exact s.nextGate_frame _
        · rfl

theorem State.takePulse_frame (s : State) (c : ChannelNo) (p : Pulse) :
    s.takePulse c p = (s.withChannels (s.takePulse c p).channels).withLink (s.takePulse c p).link := by
  unfold State.takePulse
  simp only
  split <;> rfl

theorem State.takePair_frame (s : State) (c : ChannelNo) (f r : SensorResult) :
    s.takePair c f r = (s.withChannels (s.takePair c f r).channels).withLink (s.takePair c f r).link := by
  unfold State.takePair
  split
  · rfl
  · simp only
    split <;> rfl

theorem State.takeHandover_frame (s : State) (c : ChannelNo) :
    s.takeHandover c = ((s.withInputs (s.takeHandover c).inputs).withChannels (s.takeHandover c).channels).withLink (s.takeHandover c).link := by
  unfold State.takeHandover
  split
  · rfl
  · rw [State.takePulse_frame]
    rfl

theorem State.tick_frame (s : State) (c : ChannelNo) (x : Sample) :
    s.tick c x =
      ((s.withInputs (s.tick c x).inputs).withChannels (s.tick c x).channels).withLink (s.tick c x).link := by
  unfold State.tick
  split
  · simp only
    split
    · rw [State.takeHandover_frame, s.takeHandover_frame]
      rfl
    · rw [s.takeHandover_frame]
      rfl
  · rfl

theorem State.sensorGateEnd_frame (s : State) (n : SensorNo) (r : Round) (ts : Option Nat) :
    s.sensorGateEnd n r ts =
      ((s.withTcv (s.sensorGateEnd n r ts).tcv).withChannels (s.sensorGateEnd n r ts).channels).withLink (s.sensorGateEnd n r ts).link := by
  unfold State.sensorGateEnd
  simp only
  split
  · split
    · rw [State.nextGate_frame, State.takePair_frame]
      rfl
    · rw [State.nextGate_frame]
      rfl
  · rw [State.nextGate_frame]
    rfl

/-- A sensor status is mirrored by a state in which the channel integrates (R65). -/
theorem SensorStatus.channelState_integrating (st : SensorStatus) : st.channelState.integrating = true := by cases st <;> rfl

/-- A pulse leaves the channel's state and sensor status (R74). -/
theorem Channel.takePulse_state (b : BandNo) (e : Bool) (p : Pulse) (c : Channel) :
    (c.takePulse b e p).state = c.state ∧ (c.takePulse b e p).status = c.status ∧ (c.takePulse b e p).zone = c.zone ∧
      (c.takePulse b e p).closing = c.closing := by
  unfold Channel.takePulse Channel.measure
  split <;> (try split) <;> exact ⟨rfl, rfl, rfl, rfl⟩

/-- A carry below 100,000,000 stays so over a pulse (R77). -/
theorem Channel.takePulse_carry (b : BandNo) (e : Bool) (p : Pulse) (c : Channel) (h : c.carry < 100000000) :
    (c.takePulse b e p).carry < 100000000 := by
  unfold Channel.takePulse Channel.measure
  split <;> (try split) <;> first | exact h | exact Nat.mod_lt _ (by decide)

/-! ### The supervisor -/

theorem State.closeForStop_beside (s : State) : s.closeForStop.besideSupply = s.besideSupply ∧ s.closeForStop.ssv = s.ssv := by
  have h (z : Vector Zone 16) (c : Vector Channel 8) (q : List ZoneNo) :
      (((s.withZones z).withChannels c).withQueue q).besideSupply = s.besideSupply ∧
        (((s.withZones z).withChannels c).withQueue q).ssv = s.ssv := ⟨rfl, rfl⟩
  unfold State.closeForStop
  split
  · exact ⟨rfl, rfl⟩
  · rw [State.closeArmed_frame]
    exact h _ _ _

theorem State.stopSen_beside (s : State) : s.stopSen.besideSupply = s.besideSupply ∧ s.stopSen.ssv = s.ssv ∧ s.stopSen.sen = .cold := by
  have h (z : Vector Zone 16) (q : List ZoneNo) :
      (((s.withZones z).withQueue q).withSen .cold).besideSupply = s.besideSupply ∧
        (((s.withZones z).withQueue q).withSen .cold).ssv = s.ssv ∧ (((s.withZones z).withQueue q).withSen .cold).sen = .cold :=
    ⟨rfl, rfl, rfl⟩
  unfold State.stopSen
  split
  · exact h _ _
  · exact ⟨rfl, rfl, rfl⟩

/-- The stop of the main domain leaves what the backup domain and the ledgers hold, and the supervisor. -/
theorem State.stopMain_beside (s : State) : s.stopMain.besideSupply = s.besideSupply ∧ s.stopMain.ssv = s.ssv := by
  have h (t : State) (l : Link) (c : Tcv) (a : Abm) (u : Atu) :
      ((((t.withLink l).withTcv c).withAbm a).withAtu u).besideSupply = t.besideSupply ∧
        ((((t.withLink l).withTcv c).withAbm a).withAtu u).ssv = t.ssv := ⟨rfl, rfl⟩
  unfold State.stopMain
  exact ⟨(h _ _ _ _ _).1.trans ((State.stopSen_beside _).1.trans s.closeForStop_beside.1),
    (h _ _ _ _ _).2.trans ((State.stopSen_beside _).2.1.trans s.closeForStop_beside.2)⟩

/-- A stopped main domain holds no working state (R189). -/
theorem State.stopMain_stopped (s : State) :
    s.stopMain.link.receiver = .discard ∧ s.stopMain.link.burst = false ∧ s.stopMain.tcv.round = none ∧ s.stopMain.abm.cycle = none ∧
      s.stopMain.abm.activity = .none ∧ s.stopMain.abm.sweep = ⟨false, []⟩ ∧ s.stopMain.atu.op = none ∧ s.stopMain.atu.handed = none ∧
      s.stopMain.sen = .cold := by
  have h (t : State) (u : Atu) : ((((t.withLink t.link.stop).withTcv { t.tcv with round := none }).withAbm t.abm.stop).withAtu u).sen = t.sen := rfl
  refine ⟨rfl, rfl, rfl, rfl, rfl, rfl, rfl, rfl, ?_⟩
  unfold State.stopMain
  exact (h _ _).trans (State.stopSen_beside _).2.2

end Sys2Proof.Machine
end

