-- ==== Sys2Proof/Laws/Request.lean ====
section
/-! SUPPORT. What taking a request does: not taken, refused, carried out, or left waiting. -/

namespace Sys2Proof.Machine

/-- A request that cannot be taken changes nothing. -/
theorem State.take_of_not {s : State} {i : Instr} (type : Byte) (owner : State → Answer) (h : s.canTake i = false) :
    s.take i type owner = s := by
  simp [State.take, h]

/-- A taken request whose owner answers at once. -/
theorem State.take_reply {s t : State} {i : Instr} {type : Byte} {owner : State → Answer} {st : Status} {c : Content}
    (h : s.canTake i = true) (ho : owner s.arrive = .reply st c t) : s.take i type owner = t.reply type st c := by
  simp [State.take, h, ho]

/-- A taken request whose reply waits. -/
theorem State.take_wait {s t : State} {i : Instr} {type : Byte} {owner : State → Answer}
    (h : s.canTake i = true) (ho : owner s.arrive = .wait t) :
    s.take i type owner = t.withLink { t.link with receiver := .processTaken type } := by
  simp [State.take, h, ho]

/-- Arrival changes LINK alone. -/
theorem State.arrive_frame (s : State) : s.arrive = s.withLink s.arrive.link := by
  unfold State.arrive; split <;> rfl

/-- Arrival counts a frame when LINK was in HUNT. -/
theorem State.arrive_link (s : State) :
    s.arrive.link = { s.link with framesTaken := if s.link.receiver = .hunt then inc32 s.link.framesTaken else s.link.framesTaken } := by
  obtain ⟨l⟩ := s
  obtain ⟨r⟩ := l
  cases r <;> rfl

/-- A refusal, seen from before the frame arrived. -/
theorem State.arrive_reply (s : State) (type : Byte) (st : Status) (c : Content) : s.arrive.reply type st c = s.answered type st c := by
  obtain ⟨l⟩ := s
  obtain ⟨r⟩ := l
  cases r <;> rfl

/-- The fields a request's owner reads stand as they were before the frame arrived. -/
theorem State.arrive_fields (s : State) : s.arrive = s.withLink (s.arrive.link) ∧ s.arrive.accounts = s.accounts ∧ s.arrive.zones = s.zones ∧
    s.arrive.ledgers = s.ledgers ∧ s.arrive.house = s.house ∧ s.arrive.channels = s.channels ∧ s.arrive.inputs = s.inputs ∧
    s.arrive.tcv = s.tcv ∧ s.arrive.abm = s.abm ∧ s.arrive.nodes = s.nodes ∧ s.arrive.points = s.points ∧ s.arrive.atu = s.atu := by
  refine ⟨State.arrive_frame s, ?_, ?_, ?_, ?_, ?_, ?_, ?_, ?_, ?_, ?_, ?_⟩ <;> (unfold State.arrive; split <;> rfl)

/-- A taken request whose owner, on any state that differs from `s` in LINK alone, answers with a state built from it by `f`. -/
theorem State.take_accept {s : State} {i : Instr} {type : Byte} {owner : State → Answer} {st : Status} {c : Content} {f : State → State}
    (h : s.canTake i = true) (ho : ∀ l : Link, owner (s.withLink l) = .reply st c (f (s.withLink l)))
    (hl : ∀ l m : Link, (f (s.withLink l)).withLink m = (f s).withLink m) (hk : ∀ l : Link, (f (s.withLink l)).link = l) :
    s.take i type owner = (f s).withLink (s.link.answered type st c) := by
  have e := State.arrive_frame s
  have ho' := ho s.arrive.link
  rw [← e] at ho'
  rw [State.take_reply h ho']
  have hk' := hk s.arrive.link
  rw [← e] at hk'
  have hl' := hl s.arrive.link
  rw [← e] at hl'
  show (f s.arrive).withLink _ = _
  rw [hl', hk', State.arrive_link]
  rfl

/-- A taken request whose owner answers with nothing changed. -/
theorem State.take_same {s : State} {i : Instr} {type : Byte} {owner : State → Answer} {st : Status} {c : Content}
    (h : s.canTake i = true) (ho : ∀ l : Link, owner (s.withLink l) = .reply st c (s.withLink l)) :
    s.take i type owner = s.answered type st c :=
  State.take_accept (f := id) h ho (fun _ _ => rfl) (fun _ => rfl)

end Sys2Proof.Machine
end

