-- ==== Sys2Proof/Tests/Slice0.lean ====
section
/-! SUPPORT. The model's own tests: the well-formedness checks refuse ill-formed terms, small steps and worked figures of the spec, and, for every
statement with hypotheses, a concrete state and operands that meet them, clause by clause. -/

namespace Sys2Proof.Machine.Tests

set_option Elab.async false

/-! ### Helpers -/

/-- A part of the state after a command. -/
def after {α : Type} (i : Instr) (s : State) (f : State → α) : Option α :=
  match exec i s with
  | .next t => some (f t)
  | .fault _ => none
  | .refused _ => none

/-- The status of the reply in SEND after a command. -/
def status (i : Instr) (s : State) : Option Status :=
  match after i s (·.link.receiver) with
  | some (.send r) => some r.status
  | _ => none

/-- The content of the reply in SEND after a command. -/
def content (i : Instr) (s : State) : Option Content :=
  match after i s (·.link.receiver) with
  | some (.send r) => some r.content
  | _ => none

/-- The part after reset, with LINK in HUNT. -/
def ready : State := State.reset.withLink { State.reset.link with receiver := .hunt }

/-- The receiver in a state. -/
def State.receiving (s : State) (r : Receiver) : State := s.withLink { s.link with receiver := r }

/-- Zone 1 is OPEN with members 5 (OPEN) and 7 (VACANT), zone 2 OPEN and empty, channel 2 RUNNING in zone 1 with both temperatures, channel 3 stopped. -/
def home : State :=
  (((ready.withZones ((ready.zones.set 1 { Zone.cold with
      state := .opened, fixedShare := 300, openU := ⟨10, false⟩
      members := [⟨5, 600, ⟨40, false⟩, .zero⟩, ⟨7, 400, ⟨60, false⟩, .zero⟩] }).set 2 { Zone.cold with state := .opened })).withAccounts
    (((ready.accounts.set 5 .opened).set 7 .vacant).set 8 .opened)).withChannels
    (ready.channels.set 2 { Channel.cold with
      zone := some 1, state := .running, pulseValue := 10000, flow := ⟨5500, true⟩, ret := ⟨4500, true⟩
      opn := ⟨#v[⟨100, false⟩, .zero, .zero, .zero], .zero⟩ })).withInputs
    (ready.inputs.set 2 { Input.cold with running := true })

/-- A zone of `home` in another state. -/
def zoned (z : ZoneNo) (st : ZoneState) : State := home.updZone z fun r => { r with state := st }

/-- The state after some commands. -/
def run (l : List Instr) (s : State) : State :=
  l.foldl (fun s i => match exec i s with
    | .next t => t
    | .fault _ => s
    | .refused _ => s) s

/-! ### Well-formedness: one ill-formed term for each check -/

theorem test_settle_too_long : (Instr.settle (.malformed 250)).wellFormed = false := by decide

theorem test_settle_entries_too_long :
    (Instr.settle (.entries (List.replicate 9 ⟨0, 0, some 0, some (Vector.replicate 4 0)⟩))).wellFormed = false := by decide +kernel

theorem test_unknown_request_too_long : (Instr.unknownRequest 0x7F 250).wellFormed = false := by decide

theorem test_unknown_request_catalogued : (Instr.unknownRequest 0x01 0).wellFormed = false := by decide

theorem test_unknown_request_settle : (Instr.unknownRequest 0x50 3).wellFormed = false := by decide

theorem test_unknown_request_sound : (Instr.unknownRequest 0x7F 4).wellFormed = true ∧ (Instr.unknownRequest 0x01 1).wellFormed = true := by
  decide

/-! ### The queue -/

theorem test_StepRunsFront : ((ready.withPending [.identify, .busOn]).pending = Instr.identify :: [.busOn]) ∧
    (match step (ready.withPending [.identify, .busOn]) with
      | .next t => t.pending == [.busOn]
      | _ => false) = true := by decide +kernel

theorem test_NothingHappens : ready.pending = [] ∧ isRequest .identify = true ∧ State.reset.canTake .identify = false ∧
    ready.canTake (.unknownRequest 1 0) = false := by decide +kernel

theorem test_RefusalChangesNothing : ready.link.receiver = .hunt ∧ status (.openAccount 0) ready = some .badIndex := by decide +kernel

/-! ### Frames and LINK -/

theorem test_RequestRoundTrip :
    encodeRequest (.setBand 3) = some (0x29, [3]) ∧ (Instr.setBand 3).wellFormed = true ∧ decodeRequest 0x29 [3] = .setBand 3 ∧
    encodeRequest (.addMember 1 5 600) = some (0x22, [1, 5, 0x58, 0x02]) ∧ decodeRequest 0x22 [1, 5, 0x58, 0x02] = .addMember 1 5 600 := by
  decide +kernel

theorem test_FrameReception :
    (ready.mainRuns = true ∧ ready.link.receiver = .hunt ∧ ([3] : List Byte).length ≤ 249) ∧
    (match Sys2Proof.core.run 6 (ready.withPending ((hostFrame 0x29 [3]).map fun b => .byteReceived b false)) with
      | .next t => t.link.receiver == .process 0x29 [3] && t.link.framesTaken == 1
      | _ => false) = true := by decide +kernel

theorem test_LineEvents_bytes : ready.mainRuns = true ∧
    after (.byteReceived 0xA5 false) ready (·.link.receiver) = some (.receive []) ∧
    after (.byteReceived 0xA5 true) ready (·.link.noise) = some 1 ∧ after (.byteReceived 0xA4 false) ready (·.link.noise) = some 1 ∧
    after (.byteReceived 0 false) (State.receiving ready (.receive [])) (·.link.receiver) = some .discard ∧
    after (.byteReceived 251 false) (State.receiving ready (.receive [])) (·.link.badFrames) = some 1 ∧
    after (.byteReceived 1 false) (State.receiving ready (.receive [])) (·.link.receiver) = some (.receive [1]) ∧
    after (.byteReceived 250 false) (State.receiving ready (.receive [])) (·.link.receiver) = some (.receive [250]) ∧
    after (.byteReceived 1 true) (State.receiving ready (.receive [1])) (·.link.receiver) = some .discard ∧
    after (.byteReceived 1 false) (State.receiving ready (.receive [1, 1])) (·.link.receiver) = some (.receive [1, 1, 1]) ∧
    after (.byteReceived 1 false) (State.receiving ready (.process 1 [])) (·.link.overruns) = some 1 ∧
    after (.byteReceived 1 false) (State.receiving ready (.processTaken 0x46)) (·.link.flags.linkOverrun) = some true ∧
    ([0x12, 0x34] ≠ bytes16 (crc16 [1, 1]) ∧
      after (.byteReceived 0x34 false) (State.receiving ready (.receive [1, 1, 0x12])) (fun t => (t.link.receiver, t.link.badFrames)) = some (.hunt, 1)) ∧
    after (.byteReceived 1 false) (State.receiving ready .discard) (·.link.receiver) = some .discard := by decide +kernel

theorem test_LineEvents_others :
    after (.badFrame .crcMismatch) (State.receiving ready (.receive [])) (·.link.receiver) = some .hunt ∧
    after (.badFrame .badLength) ready (·.link.receiver) = some .discard ∧
    after (.badFrame .badLength) (State.receiving ready (.receive [1, 1])) (·.link.badFrames) = some 0 ∧
    after (.badFrame .framingError) (State.receiving ready (.receive [1, 1])) (·.link.receiver) = some .discard ∧
    after .linkOverrun (State.receiving ready (.send ⟨0x81, .ok, .empty⟩)) (·.link.flags.linkOverrun) = some true ∧
    after .linkOverrun (State.receiving ready (.process 1 [])) (·.link.overruns) = some 1 ∧ after .lineIdle ready (·.link) = some ready.link ∧
    after .lineIdle (State.receiving ready (.process 1 [])) (·.link.receiver) = some (.process 1 []) ∧
    after .lineIdle (State.receiving ready .discard) (·.link.receiver) = some .hunt ∧
    after .lineIdle (State.receiving ready (.receive [1])) (·.link.badFrames) = some 1 ∧
    after .lineIdle (State.receiving ready (.send ⟨0x81, .ok, .empty⟩)) (·.link.burst) = some false ∧
    after .replySent (State.receiving ready (.send ⟨0x81, .ok, .empty⟩)) (·.link.receiver) = some .hunt := by decide +kernel

theorem test_IdentifyAndUnknown : ready.canTake .identify = true ∧ content .identify ready = some (.identification .cold 0 0) ∧
    ready.canTake (.unknownRequest 0x7F 4) = true ∧ status (.unknownRequest 0x7F 4) ready = some .unknownRequest ∧
    ready.canTake (.unknownRequest 0x01 1) = true ∧ status (.unknownRequest 0x01 1) ready = some .badValue := by decide +kernel

theorem test_ReadEvents : ready.canTake (.readEvents 0) = true ∧ after (.readEvents 0) ready (·.link.flags) = some .none ∧
    status (.readEvents 1) ready = some .ok ∧ status (.readEvents 2) ready = some .badValue := by decide +kernel

theorem test_SetEventMask : ready.canTake (.setEventMask 0x1000) = true ∧ status (.setEventMask 0x1000) ready = some .badValue ∧
    after (.setEventMask 0x0FFF) ready (·.alertLow) = some true ∧ after (.setEventMask 0x0BFF) ready (·.alertLow) = some false := by
  decide +kernel

theorem test_ReadCounters : ready.canTake (.readCounters 0) = true ∧ content (.readCounters 0) ready = some (.linkCounters 1 0 0 0 0) ∧
    status (.readCounters 1) ready = some .ok ∧ after (.readCounters 2) ready (·.freeUses) = some 1 ∧
    status (.readCounters 3) ready = some .ok ∧ status (.readCounters 4) ready = some .badValue := by decide +kernel

theorem test_FactoryClear : ready.canTake .factoryClear = true ∧ content .factoryClear ready = some .empty ∧
    after .replySent (State.receiving home (.send ⟨0xE1, .ok, .empty⟩)) (fun t => (t.ssv.domain, t.accounts[5])) =
      some (.coldStart, .free) ∧
    after .coldStartEnd (ready.withSsv { ready.ssv with domain := .coldStart, markerValid := false }) (fun t => (t.ssv, t.link.flags.coldStart)) =
      some (ready.ssv, true) := by decide +kernel

/-! ### Accounts, zones and the tariff -/

theorem test_AccountRequestChecks_open : home.canTake (.openAccount 9) = true ∧ status (.openAccount 128) home = some .badIndex ∧
    status (.openAccount 0) home = some .badIndex ∧ status (.openAccount 5) home = some .wrongState ∧
    status (.openAccount 9) (home.updLedger 9 fun l => { l with unbilled := { l.unbilled with count := 1 } }) = some .uncollected ∧
    after (.openAccount 127) home (·.accounts[127]) = some .opened := by decide +kernel

theorem test_AccountRequestChecks_vacate_free : status (.vacateAccount 0) home = some .badIndex ∧
    status (.vacateAccount 7) home = some .wrongState ∧ after (.vacateAccount 5) home (·.accounts[5]) = some .vacant ∧
    status (.freeAccount 128) home = some .badIndex ∧ status (.freeAccount 5) home = some .wrongState ∧
    status (.freeAccount 7) home = some .conflict ∧
    status (.freeAccount 9) ((home.withAccounts (home.accounts.set 9 .vacant)).updLedger 9 fun l =>
      { l with unbilled := { l.unbilled with count := 1 } }) = some .uncollected ∧
    after (.freeAccount 9) (home.withAccounts (home.accounts.set 9 .vacant)) (·.accounts[9]) = some .free := by decide +kernel

theorem test_DefineZone : home.canTake (.defineZone 3 1 1000 0) = true ∧ status (.defineZone 16 0 0 0) home = some .badIndex ∧
    status (.defineZone 3 0 1001 0) home = some .badValue ∧ status (.defineZone 3 2 0 0) home = some .badValue ∧
    status (.defineZone 3 0 0 2) home = some .badValue ∧ status (.defineZone 1 0 0 0) (zoned 1 .armed) = some .busy ∧
    after (.defineZone 3 1 1000 1) home (fun t => (t.zones[3].state, t.zones[3].mode, t.zones[3].fixedShare, t.zones[3].external)) =
      some (.opened, .cooling, 1000, true) ∧
    status (.defineZone 1 1 0 0) home = some .wrongState ∧
    after (.defineZone 1 0 500 0) home (fun t => (t.zones[1].fixedShare, t.zones[1].members.length)) = some (500, 2) := by decide +kernel

theorem test_DeleteZone : home.canTake (.deleteZone 2) = true ∧ status (.deleteZone 16) home = some .badIndex ∧
    status (.deleteZone 1) (zoned 1 .queued) = some .busy ∧ status (.deleteZone 3) home = some .wrongState ∧
    status (.deleteZone 1) home = some .wrongState ∧ after (.deleteZone 2) home (·.zones[2].state) = some .unused := by decide +kernel

theorem test_AddMember : home.canTake (.addMember 1 8 1) = true ∧ status (.addMember 16 8 1) home = some .badIndex ∧
    status (.addMember 3 8 1) home = some .wrongState ∧ status (.addMember 1 8 1) (zoned 1 .settling) = some .busy ∧
    status (.addMember 1 9 1) home = some .wrongState ∧
    status (.addMember 1 0 1) home = some .wrongState ∧ status (.addMember 1 5 1) home = some .conflict ∧
    status (.addMember 1 8 1) (home.updZone 1 fun r => { r with members := List.replicate 32 ⟨5, 1, .zero, .zero⟩ }) = some .full ∧
    after (.addMember 1 8 65535) home (fun t => t.zones[1].members.map (·.account)) = some [5, 7, 8] ∧
    status (.addMember 1 8 0) home = some .badValue ∧ status (.addMember 1 128 1) home = some .badValue := by decide +kernel

theorem test_RemoveMember : home.canTake (.removeMember 1 5) = true ∧ status (.removeMember 16 5) home = some .badIndex ∧
    status (.removeMember 1 128) home = some .badValue ∧ status (.removeMember 3 127) home = some .wrongState ∧
    status (.removeMember 1 5) (zoned 1 .armed) = some .busy ∧ status (.removeMember 1 8) home = some .conflict ∧
    home.zones[1].members = [] ++ ⟨5, 600, ⟨40, false⟩, .zero⟩ :: [⟨7, 400, ⟨60, false⟩, .zero⟩] ∧
    after (.removeMember 1 5) home (fun t => (t.zones[1].members.map (·.account), t.zones[1].openU)) = some ([7], ⟨50, false⟩) := by
  decide +kernel

theorem test_ZoneReadsPricesBand : home.canTake (.readZone 1 0) = true ∧ status (.readZone 16 0) home = some .badIndex ∧
    status (.readZone 1 32) home = some .badValue ∧ status (.readZone 1 31) home = some .ok ∧
    home.canTake (.setPrices 0 1 2 3 4) = true ∧ status (.setPrices 2 1 2 3 4) home = some .badValue ∧
    after (.setPrices 0 1 2 3 65535) home (fun t => (t.prices.heating, t.prices.cooling)) = some (#v[1, 2, 3, 65535], #v[0, 0, 0, 0]) ∧
    after (.setPrices 1 1 2 3 4) home (·.prices.cooling) = some #v[1, 2, 3, 4] ∧ status (.setBand 4) home = some .badValue ∧
    after (.setBand 3) home (·.band) = some 3 := by decide +kernel

/-- `home` with the bus RUNNING in POLL, two nodes, and nothing in hand. -/
def polling : State :=
  (home.withAbm { home.abm with
    bus := .running, cycleNumber := 9, cycle := some ⟨.poll, 144000, 77, 0, none⟩ }).withNodes
    [⟨20#32, 1, .allocator, .active, true, 0, none, none, none, 0, false⟩,
      ⟨40#32, 1, .allocator, .halted, false, 2, none, none, none, 9, false⟩]

theorem test_SettleOneEntry : home.canTake (.settle (.entries [⟨1, 0, none, none⟩])) = true ∧
    content (.settle (.entries [⟨16, 0, none, none⟩])) home = some (.entryStatuses [.badIndex]) ∧
    content (.settle (.entries [⟨1, 2, none, none⟩])) home = some (.entryStatuses [.badValue]) ∧
    content (.settle (.entries [⟨3, 1, none, none⟩])) home = some (.entryStatuses [.wrongState]) ∧
    content (.settle (.entries [⟨1, 1, none, none⟩])) (zoned 1 .settling) = some (.entryStatuses [.busy]) ∧
    content (.settle (.entries [⟨1, 1, none, some (Vector.replicate 4 0)⟩])) home = some (.entryStatuses [.badValue]) ∧
    content (.settle (.entries [⟨1, 1, none, none⟩])) home = some (.entryStatuses [.noCycle]) ∧
    after (.settle (.entries [⟨1, 1, some 7, none⟩])) polling (fun t => (t.zones[1].state, t.zones[1].armed.standing)) =
      some (.armed, some 7) ∧
    after (.settle (.entries [⟨1, 0, none, none⟩])) home (fun t => (t.zones[1].state, t.zones[1].number, t.queue,
      t.channels[2].closing.bands[0].value)) = some (.queued, 1, [1], 100) := by decide +kernel

theorem test_SettleInOrder : home.canTake (.settle (.malformed 2)) = true ∧ status (.settle (.malformed 2)) home = some .badValue ∧
    home.canTake (.settle (.entries [])) = true ∧ status (.settle (.entries [])) home = some .badValue ∧
    home.canTake (.settle (.entries (List.replicate 17 ⟨1, 0, none, none⟩))) = true ∧
    home.canTake (.settle (.entries [⟨1, 0, none, none⟩, ⟨1, 0, none, none⟩])) = true ∧ home.link.receiver = .hunt ∧
    content (.settle (.entries [⟨1, 0, none, none⟩, ⟨1, 0, none, none⟩])) home = some (.entryStatuses [.ok, .busy]) := by decide +kernel

/-! ### Channels, converter and pulses -/

/-- CONFIGURE CHANNEL of a channel with the cold-start fields but for mode, zone, pulse value, filter and edge. -/
def config (c m z : Byte) (v : Word16) (f e : Byte) : Instr := .configureChannel c m z v 1161 0 0 0 3600 f e

theorem test_ConfigureChannel : home.canTake (config 3 0 1 1 32 2) = true ∧ status (config 8 0 1 1 32 2) home = some .badIndex ∧
    status (config 3 2 1 1 32 2) home = some .badValue ∧ status (config 3 0 16 1 32 2) home = some .badValue ∧
    status (config 3 0 1 0 32 2) home = some .badValue ∧ status (config 3 0 1 1 4 2) home = some .badValue ∧
    status (config 3 0 1 1 1 3) home = some .badValue ∧ status (.configureChannel 3 0 1 1 0 501 0 0 1 1 0) home = some .badValue ∧
    status (.configureChannel 3 0 1 1 0 500 5001 0 1 1 0) home = some .badValue ∧
    status (.configureChannel 3 0 1 1 0 500 5000 0 0 1 0) home = some .badValue ∧
    status (.configureChannel 3 0 1 1 0 500 5000 0 3601 1 0) home = some .badValue ∧
    status (.configureChannel 3 0 1 65535 65535 500 5000 65535 3600 1 0) home = some .ok ∧
    status (config 2 0 1 1 1 0) home = some .wrongState := by decide +kernel

theorem test_ConfigureChannel_zone : modeOf 0 = some .heating ∧ optionalZoneOf 1 = some (some 1) ∧ optionalZoneOf 0xFF = some none ∧
    edgeOf 2 = some .both ∧
    status (config 3 0 1 1 32 2) (home.updChannel 3 fun c => { c with opn := ⟨#v[⟨1, false⟩, .zero, .zero, .zero], .zero⟩ }) = some .wrongState ∧
    status (config 3 0 4 1 32 2) home = some .wrongState ∧ status (config 3 0 1 1 32 2) (zoned 1 .armed) = some .busy ∧
    status (config 3 1 1 1 32 2) home = some .conflict ∧
    after (config 3 0 1 7 32 2) home (fun t => (t.channels[3].zone, t.channels[3].pulseValue, t.inputs[3].filter, t.inputs[3].edge)) =
      some (some 1, 7, 32, .both) ∧
    after (config 3 1 0xFF 7 32 2) home (fun t => (t.channels[3].zone, t.channels[3].mode)) = some (none, .cooling) := by decide +kernel

/-- `home` with a round in progress: sensor 4's gate in flight, sensor 5 after it. -/
def measuring : State :=
  home.withTcv { home.tcv with round := some ⟨.sensor 4, [5], 4096, some 400000, false, none⟩, roundNumber := 120 }

/-- `home` with channel 3 assigned to zone 1 and DISABLED. -/
def assigned : State := home.updChannel 3 fun c => { c with zone := some 1 }

theorem test_ChannelStateRequests_start : assigned.canTake (.startChannel 3) = true ∧ status (.startChannel 8) assigned = some .badIndex ∧
    status (.startChannel 2) assigned = some .wrongState ∧ status (.startChannel 4) assigned = some .wrongState ∧
    after (.startChannel 3) assigned (fun t => (t.channels[3].state, t.inputs[3].running, t.tcv.roundNumber, t.tcv.round)) =
      some (.running, true, 1, some ⟨.reference, [4, 5, 6, 7], 4096, none, false, none⟩) ∧
    after (.startChannel 3) (assigned.withTcv measuring.tcv) (·.tcv) = some measuring.tcv := by decide +kernel

theorem test_ChannelStateRequests_pause_resume : home.canTake (.pauseChannel 2) = true ∧ status (.pauseChannel 8) home = some .badIndex ∧
    status (.pauseChannel 3) home = some .wrongState ∧ after (.pauseChannel 2) home (·.channels[2].state) = some .paused ∧
    home.canTake (.resumeChannel 2) = true ∧ status (.resumeChannel 8) home = some .badIndex ∧
    status (.resumeChannel 2) home = some .wrongState ∧
    after (.resumeChannel 2) (home.updChannel 2 fun c => { c with state := .paused, status := .hold }) (·.channels[2].state) = some .hold ∧
    after (.resumeChannel 2) (home.updChannel 2 fun c => { c with state := .paused }) (·.channels[2].state) = some .running := by decide +kernel

theorem test_ChannelStateRequests_stop : home.canTake (.stopChannel 2) = true ∧ status (.stopChannel 8) home = some .badIndex ∧
    status (.stopChannel 3) home = some .ok ∧ after (.stopChannel 2) home (fun t => (t.channels[2].state, t.inputs[2].running, t.tcv.round)) =
      some (.disabled, false, none) ∧
    after (.stopChannel 2) measuring (·.tcv.round) = some none ∧
    after (.stopChannel 2) (measuring.updChannel 5 fun c => { c with state := .running }) (fun t => (t.tcv.roundNumber, t.tcv.round)) =
      some (121, some ⟨.reference, [10, 11], 4096, none, false, none⟩) ∧
    after (.stopChannel 5) ((measuring.updChannel 5 fun c => { c with state := .hold }).withRound
        (some ⟨.sensor 4, [5, 10, 11], 4096, some 400000, false, none⟩)) (·.tcv.round) =
      some (some ⟨.sensor 4, [5], 4096, some 400000, false, none⟩) ∧
    after (.stopChannel 2) ((measuring.updChannel 5 fun c => { c with state := .hold }).withRound
        (some ⟨.sensor 4, [5, 10, 11], 4096, some 400000, false, none⟩)) (·.tcv.round) =
      some (some ⟨.sensor 10, [11], 4096, some 400000, false, none⟩) := by decide +kernel

/-- The worked case of R95: 10,000 mL and 9,216 ticks give 4,000 L/h. -/
theorem test_ReadChannel : home.canTake (.readChannel 2) = true ∧ status (.readChannel 8) home = some .badIndex ∧
    (home.updInput 2 fun i => { i with lastPeriod := 9216, known := true }).flowRate 2 = 4000 ∧ home.flowRate 2 = 0 ∧
    status (.readChannel 7) home = some .ok := by decide +kernel

theorem test_ConverterRequests : home.canTake (.configureConverter 8192 0) = true ∧ status (.configureConverter 8191 0) home = some .badValue ∧
    after (.configureConverter 8192 255) measuring (fun t => (t.tcv.gateLength, t.tcv.holdLimit, t.tcv.round.map (·.gateLength))) =
      some (8192, 255, some 4096) ∧
    home.canTake (.setCalibration 5 0 0) = true ∧ status (.setCalibration 16 0 0) home = some .badIndex ∧
    status (.setCalibration 5 0 65536) home = some .badValue ∧ status (.setCalibration 5 0 0xFFFEFFFF) home = some .badValue ∧
    after (.setCalibration 5 65535 0xFFFF0000) home (·.tcv.calibration[5]) = some ⟨65535, -65536⟩ ∧
    home.canTake (.readSensor 15) = true ∧ status (.readSensor 16) home = some .badIndex ∧ status (.readSensor 15) home = some .ok := by
  decide +kernel

theorem test_ReferenceGate : measuring.mainRuns = true ∧
    after (.referenceGate 400000) (measuring.withRound (some ⟨.reference, [4, 5], 4096, none, false, none⟩)) (·.tcv.round) =
      some (some ⟨.sensor 4, [5], 4096, some 400000, false, none⟩) ∧
    after (.referenceGate 999) (measuring.withRound (some ⟨.reference, [4, 5], 4096, none, false, none⟩)) (·.tcv.round.map (·.refFault)) =
      some (some true) ∧
    after .gateOverflow (measuring.withRound (some ⟨.reference, [4, 5], 4096, none, false, none⟩)) (·.tcv.round) =
      some (some ⟨.sensor 4, [5], 4096, none, true, none⟩) ∧
    after (.referenceGate 1000) (measuring.withRound (some ⟨.reference, [], 4096, none, false, none⟩)) (·.tcv.roundNumber) = some 121 ∧
    after (.referenceGate 1000) (ready.withRound (some ⟨.reference, [], 4096, none, false, none⟩)) (·.tcv.round) = some none := by
  decide +kernel

/-- The gates of the worked example of chapter 6: 484,700 and 469,300 over 400,000 convert to 5,500 and 4,500. -/
theorem test_SensorGate :
    after (.gateComplete 484700) measuring (fun t => (t.tcv.round, t.tcv.last[4].temperature)) =
      some (some ⟨.sensor 5, [], 4096, some 400000, false, some (.valid 5500 false)⟩, some 5500) ∧
    after (.gateComplete 469300) (measuring.withRound (some ⟨.sensor 5, [], 4096, some 400000, false, some (.valid 5500 false)⟩))
      (fun t => (t.channels[2].flow, t.channels[2].ret, t.tcv.roundNumber)) = some (⟨5500, true⟩, ⟨4500, true⟩, 121) ∧
    after .gateOverflow measuring (fun t => (t.tcv.last[4].status, t.tcv.last[4].tally)) = some (.openCircuit, 1) := by decide +kernel

/-- The cases of R111 at their bounds, and step 8 of the worked example with its rounding. -/
theorem test_Classification :
    classify ⟨25974, -25974⟩ ⟨.sensor 4, [], 4096, some 500, true, none⟩ (some 500) = .fault .reference ∧
    classify ⟨25974, -25974⟩ ⟨.sensor 4, [], 4096, some 1000, false, none⟩ none = .fault .openCircuit ∧
    classify ⟨25974, -25974⟩ ⟨.sensor 4, [], 4096, some 1000, false, none⟩ (some 2001) = .fault .openCircuit ∧
    classify ⟨25974, -25974⟩ ⟨.sensor 4, [], 4096, some 1000, false, none⟩ (some 499) = .fault .short ∧
    classify ⟨25974, -25974⟩ ⟨.sensor 4, [], 4096, some 1000, false, none⟩ (some 2000) = .valid 15000 true ∧
    classify ⟨25974, -25974⟩ ⟨.sensor 4, [], 4096, some 1000, false, none⟩ (some 500) = .valid (-5000) true ∧
    classify ⟨25974, -25954⟩ ⟨.sensor 5, [], 8192, some 800000, false, none⟩ (some 938600) = .valid 4520 false := by decide +kernel

/-- The five rows of the table of R72, on a channel with hold limit 8 and 0. -/
theorem test_ResultPair :
    (home.takePair 2 (.valid 1 true) (.valid 2 false)).channels[2].counters.clamped = 1 ∧
    (home.takePair 2 (.fault .short) (.valid 2 false)).channels[2].state = .hold ∧
    (home.takePair 2 (.fault .short) (.valid 2 false)).link.flags.channelFault = true ∧
    ((home.withTcv { home.tcv with holdLimit := 0 }).takePair 2 (.fault .short) (.valid 2 false)).channels[2].state = .substitute ∧
    ((home.updChannel 2 fun c => { c with state := .hold, status := .hold, holdCount := 7 }).takePair 2 (.fault .short)
      (.fault .short)).channels[2].holdCount = 8 ∧
    ((home.updChannel 2 fun c => { c with state := .hold, status := .hold, holdCount := 8 }).takePair 2 (.fault .short)
      (.fault .short)).channels[2].state = .substitute ∧
    ((home.updChannel 2 fun c => { c with state := .paused, status := .hold, holdCount := 8 }).takePair 2 (.fault .short)
      (.fault .short)).channels[2].state = .paused ∧
    ((home.updChannel 2 fun c => { c with state := .substitute, status := .substitute }).takePair 2 (.fault .short)
      (.fault .short)).channels[2].status = .substitute ∧
    home.takePair 3 (.fault .short) (.fault .short) = home := by
  refine ⟨?_, ?_, ?_, ?_, ?_, ?_, ?_, ?_, rfl⟩ <;> decide +kernel

/-- An input of `home` in this state. -/
def sampled (i : Input) : State := home.withInputs (home.inputs.set 2 i)

/-- A settled LOW input, one sample short of accepting HIGH, 2,048 ticks after its last pulse. -/
def rising : Input := { Input.cold with running := true, accepted := some .low, candidate := some .high, stability := 3, counter := 2047, pulsed := true }

theorem test_Tick :
    after (.tick 3 ⟨.high, true⟩) home (·.inputs[3]) = some Input.cold ∧
    -- RUNNING, but without power: log 31
    after (.tick 2 ⟨.high, true⟩) ((sampled rising).withSsv { (sampled rising).ssv with powered := false }) (·.inputs[2]) = some rising ∧
    after (.tick 2 ⟨.low, true⟩) (sampled rising) (fun t => (t.inputs[2].candidate, t.inputs[2].counter)) = some (none, 2048) ∧
    after (.tick 2 ⟨.high, true⟩) (sampled { rising with stability := 2 }) (·.inputs[2].stability) = some 3 ∧
    after (.tick 2 ⟨.high, true⟩) (sampled { rising with candidate := none }) (·.inputs[2].stability) = some 1 ∧
    after (.tick 2 ⟨.high, true⟩) (sampled { rising with edge := .falling }) (fun t => (t.inputs[2].accepted, t.inputs[2].counter)) =
      some (some .high, 2048) ∧
    after (.tick 2 ⟨.high, true⟩) (sampled { rising with accepted := none }) (fun t => (t.inputs[2].accepted, t.inputs[2].counter)) =
      some (some .high, 2048) ∧
    after (.tick 2 ⟨.high, true⟩) (sampled rising) (fun t => (t.inputs[2].lastPeriod, t.inputs[2].known, t.channels[2].counters.pulses)) =
      some (2048, true, 1) ∧
    after (.tick 2 ⟨.high, true⟩) (sampled { rising with minPeriod := 2049, edge := .both }) (·.link.flags.overspeed) = some true ∧
    after (.tick 2 ⟨.high, false⟩) (sampled rising) (fun t => (t.inputs[2].handover, t.channels[2].counters.pulses)) =
      some (some ⟨2048, true, false⟩, 0) ∧
    after (.tick 2 ⟨.low, false⟩) (sampled { rising with handover := some ⟨9, true, true⟩ })
      (fun t => (t.inputs[2].handover, t.channels[2].counters.pulses, t.link.flags.overspeed)) = some (none, 1, true) := by decide +kernel

/-- A pulse that waits in the handover is dropped when STOP CHANNEL is taken first, and its capture stands (R92, R99, R100). -/
theorem test_StopDropsHandover :
    ((run [.tick 2 ⟨.high, false⟩, .stopChannel 2] (sampled rising)).channels[2].counters.pulses,
      (run [.tick 2 ⟨.high, false⟩, .stopChannel 2] (sampled rising)).inputs[2].lastPeriod,
      (run [.tick 2 ⟨.high, false⟩, .stopChannel 2] (sampled rising)).inputs[2].handover) = (0, 2048, none) ∧
    (run [.tick 2 ⟨.high, true⟩, .stopChannel 2] (sampled rising)).channels[2].counters.pulses = 1 := by decide +kernel

theorem test_TickEvents :
    after (.acceptedChange 2) (sampled rising) (fun t => (t.inputs[2].accepted, t.channels[2].counters.pulses)) = some (some .high, 1) ∧
    after (.inputSettling 2) (sampled { rising with accepted := none }) (·.inputs[2].accepted) = some (some .high) ∧
    after (.noFlow 2 ⟨.low, true⟩) (sampled { rising with noFlowLimit := 2 }) (·.inputs[2].noFlow) = some true ∧
    after (.noFlow 2 ⟨.low, true⟩) (sampled rising) (·.inputs[2].noFlow) = some false := by decide +kernel

/-- 10,000 mL at 10.00 K and k = 1,161 give 11,610,000,000 / 100,000,000, that is 116 Wh and a carry. -/
theorem test_PulseTaken :
    (home.takePulse 2 ⟨2048, true, false⟩).channels[2].opn.bands[0] = ⟨100 + 116, false⟩ ∧
    (home.takePulse 3 ⟨2048, true, true⟩).channels[3] = Channel.cold ∧
    ((home.updChannel 2 fun c => { c with state := .paused }).takePulse 2 ⟨2048, true, false⟩).channels[2].pausedVolume = 10000 ∧
    ((home.updChannel 2 fun c => { c with ret := ⟨0, false⟩ }).takePulse 2 ⟨2048, true, false⟩).channels[2].counters.beforeTemp = 1 ∧
    ((home.updChannel 2 fun c => { c with state := .substitute, fallbackDT := 5000 }).takePulse 2 ⟨2048, true, false⟩).channels[2].estimated =
      580 ∧
    ((home.updChannel 2 fun c => { c with mode := .cooling }).takePulse 2 ⟨2048, true, false⟩).channels[2].counters.reverse = 1 ∧
    ((home.updChannel 2 fun c => { c with minDT := 1001 }).takePulse 2 ⟨2048, true, false⟩).channels[2].counters.low = 1 ∧
    ((home.updChannel 2 fun c => { c with minDT := 1000 }).takePulse 2 ⟨2048, true, false⟩).channels[2].energy = 116 := by decide +kernel

theorem test_PulseEnergy :
    (Channel.integrate 3 true 20000 { Channel.cold with pulseValue := 65535, k := 65535, carry := 99999999 }).energy = 858968 ∧
    (Channel.integrate 3 true 20000 { Channel.cold with pulseValue := 65535, k := 65535, carry := 99999999 }).carry = 24499999 ∧
    (Channel.integrate 0 false 1000 { Channel.cold with pulseValue := 10000, opn := ⟨#v[⟨2 ^ 40 - 2, false⟩, .zero, .zero, .zero], .zero⟩ }).opn.bands[0] =
      ⟨2 ^ 40 - 1, true⟩ := by decide +kernel

/-! ### The allocator bus -/

/-- `polling` with another cycle. -/
def cycled (c : Cycle) : State := polling.withCycle (some c)

/-- `polling` in SWEEP with the learning of this serial in this zone handed over. -/
def learns (x : Serial) (z : ZoneNo) : State :=
  (polling.withAbm { polling.abm with cycle := some ⟨.sweep, 144000, 100, 0, none⟩, sweep := ⟨true, []⟩ }).hand
    (some (.learn (some ⟨0, 63⟩) ⟨x, z, .submeter⟩))

/-- A state with its bus STOPPING. -/
def stopping (s : State) : State := s.withAbm { s.abm with bus := .stopping }

/-- A state with this sweep stack. -/
def stacked (l : List Range) (s : State) : State := s.withAbm { s.abm with sweep := ⟨true, l⟩ }

/-- A state with a Node Table operation in progress. -/
def operated (op : NodeOp) (s : State) : State := s.withAtu { s.atu with op := some op }

/-- CONFIGURE BUS with a guard of 1,232 and no automatic sweep. -/
def busConfig (len : Word16) (retry silent age : Byte) : Instr := .configureBus len 1232 retry silent age 0

theorem test_BusRequests_configure : home.canTake (busConfig 10 3 1 2) = true ∧ status (busConfig 9 3 1 2) home = some .badValue ∧
    status (busConfig 3601 3 1 2) home = some .badValue ∧ status (busConfig 10 4 1 2) home = some .badValue ∧
    status (busConfig 10 3 0 2) home = some .badValue ∧ status (busConfig 10 3 255 255) home = some .badValue ∧
    status (busConfig 10 3 254 254) home = some .badValue ∧ status (busConfig 3600 0 254 255) polling = some .busy ∧
    home.abm.bus = .off ∧ home.abm.cycle = none ∧
    after (busConfig 3600 0 254 255) home (·.abm.config) = some ⟨3600, 1232, 0, 254, 255, 0⟩ := by decide +kernel

theorem test_BusRequests_on_off_sweep : home.canTake .busOn = true ∧ status .busOn polling = some .wrongState ∧
    status .busOn (polling.withAbm { polling.abm with bus := .stopping }) = some .busy ∧ home.atu.handed = none ∧
    after .busOn home (fun t => (t.abm.bus, t.abm.cycleNumber, t.abm.cycle, t.abm.activity)) =
      some (.running, 1, some ⟨.beacon, 144000, 0, 0, none⟩, .beacon) ∧
    home.canTake .busOff = true ∧ after .busOff home (fun t => (t.abm.bus, t.freeUses)) = some (.off, 1) ∧
    after .busOff (polling.withActivity .beacon) (·.abm.bus) = some .stopping ∧
    after .busOff ((polling.updZone 1 fun z => { z with state := .armed })) (fun t => (t.abm.bus, t.queue, t.zones[1].lastCause, t.zones[1].cycleAtClose)) =
      some (.off, [1], .busStop, 9) ∧
    polling.canTake .startSweep = true ∧ status .startSweep home = some .noCycle ∧
    status .startSweep (polling.withAbm { polling.abm with sweep := ⟨true, []⟩ }) = some .busy ∧
    after .startSweep polling (·.abm.sweep) = some ⟨true, [⟨0, 0xFFFFFFFF⟩]⟩ := by decide +kernel

/-- BUS ON completes an act handed over before the stop, and BUS OFF detaches the setting of a toggle (R124, R125, R133). -/
theorem test_BusRequests_handed :
    after .busOn ((polling.withAbm { home.abm with bus := .off }).hand (some (.miss 20#32))) (fun t =>
      (t.nodes.map (·.misses), t.atu.handed, t.abm.activity)) = some ([1, 2], none, .beacon) ∧
    after .busOn ((polling.withAbm { home.abm with bus := .off }).hand (some (.accept ⟨20#32, true, 1, .allocator, 12, .ok⟩)))
      (·.zones[1].openU) = some ⟨12010, false⟩ ∧
    after .busOn ((polling.withAbm { home.abm with bus := .off }).hand (some (.learn none ⟨20#32, 2, .submeter⟩))) (fun t => t.nodes.map (·.zone)) =
      some [2, 1] ∧
    after .busOn ((polling.withAbm { home.abm with bus := .off }).hand (some (.setToggle none 40#32))) (fun t => t.nodes.map (·.toggle)) =
      some [true, true] ∧
    after .busOff (polling.hand (some (.miss 20#32))) (fun t => (t.abm.bus, t.atu.handed)) = some (.off, some (.miss 20#32)) ∧
    after .busOff ((learns 40#32 2).hand (some (.setToggle (some ⟨0, 63⟩) 40#32))) (fun t => (t.abm.bus, t.abm.lastSweep, t.atu.handed)) =
      some (.off, .abortedStop, some (.setToggle none 40#32)) ∧
    after .busOff (learns 40#32 2) (·.abm.bus) = some .stopping ∧ State.countsOn polling 0 ∧ State.countsOn home 0 := by
  refine ⟨?_, ?_, ?_, ?_, ?_, ?_, ?_, fun c h => ?_, fun c h => nomatch (show (none : Option Cycle) = some c from h)⟩
  iterate 7 decide +kernel
  cases show some (⟨.poll, 144000, 77, 0, none⟩ : Cycle) = some c from h
  decide

theorem test_BeaconInstant :
    after .beaconInstant ((cycled ⟨.wait, 144000, 90000, 0, none⟩).updZone 1 fun z => { z with state := .armed })
      (fun t => (t.abm.cycleNumber, t.queue, t.zones[1].lastCause, t.zones[1].cycleAtClose, t.abm.rotation)) =
      some (10, [1], .cycleEnd, 10, 0) ∧
    after .beaconInstant (cycled ⟨.poll, 144000, 144001, 0, some 20#32⟩) (fun t => (t.abm.rotation, t.abm.totals.overruns, t.link.flags.cycleOverrun)) =
      some (40#32, 1, true) ∧
    after .beaconInstant ((cycled ⟨.wait, 144000, 90000, 0, none⟩).withAbm { (cycled ⟨.wait, 144000, 90000, 0, none⟩).abm with
      config := ⟨60, 1232, 2, 3, 48, 5⟩, sweepCount := 4 }) (fun t => (t.abm.sweep.active, t.abm.sweepCount)) = some (true, 0) ∧
    after .beaconInstant (cycled ⟨.poll, 144000, 143999, 0, none⟩) (·.abm.cycleNumber) = some 9 := by decide +kernel

theorem test_PollPhase_beacon :
    after .beaconSent ((cycled ⟨.beacon, 144000, 0, 0, none⟩).withActivity .beacon) (fun t => (t.abm.cycle, t.abm.activity)) =
      some (some ⟨.poll, 144000, 77, 0, none⟩, .none) ∧
    after .beaconSent (((cycled ⟨.beacon, 144000, 0, 0, none⟩).withActivity .beacon).withNodes []) (·.abm.cycle) =
      some (some ⟨.wait, 144000, 77, 0, none⟩) ∧
    after .beaconSent ((cycled ⟨.beacon, 144000, 0, 0, none⟩).withAbm { (cycled ⟨.beacon, 144000, 0, 0, none⟩).abm with
      activity := .beacon, bus := .stopping }) (·.abm.bus) = some .off := by decide +kernel

/-- `polling` with its BEACON in hand and an empty Node Table. -/
def beaconing : State := ((cycled ⟨.beacon, 144000, 0, 0, none⟩).withActivity .beacon).withNodes []

theorem test_PollPhase_beacon_empty : beaconing.mainRuns = true ∧
    after .beaconSent (stacked [⟨0, 7⟩] beaconing) (fun t => (t.abm.activity, t.abm.sweep, t.abm.counters.transactions)) =
      some (.attempt (.rollCall ⟨0, 7⟩) 1 none, ⟨true, []⟩, 1) ∧
    after .beaconSent (stacked [] beaconing) (fun t => (t.abm.lastSweep, t.link.flags.sweepDone, t.abm.cycle)) =
      some (.completed, true, some ⟨.wait, 144000, 77, 0, none⟩) ∧
    after .beaconSent (operated (.insertion ⟨50#32, 1, .allocator⟩) beaconing) (·.abm.cycle) = some (some ⟨.poll, 144000, 77, 0, none⟩) ∧
    after .beaconSent (beaconing.hand (some (.miss 20#32))) (·.abm.cycle) = some (some ⟨.poll, 144000, 77, 0, none⟩) ∧
    after .beaconSent (stopping (beaconing.hand (some (.miss 20#32)))) (fun t => (t.abm.bus, t.atu.handed)) =
      some (.off, some (.miss 20#32)) := by decide +kernel

/-- POLL with every entry reached and a sweep active: the guard stops the sweep, an empty stack completes it; an operation is waited for. -/
theorem test_PollPhase_sweep :
    after .readTransactionStart (stacked [⟨0, 7⟩] (cycled ⟨.poll, 144000, 142769, 0, some 40#32⟩)) (fun t => (t.abm.cycle, t.abm.sweep)) =
      some (some ⟨.wait, 144000, 142769, 0, some 40#32⟩, ⟨true, [⟨0, 7⟩]⟩) ∧
    after .readTransactionStart (stacked [] (cycled ⟨.poll, 144000, 99, 0, some 40#32⟩)) (fun t => (t.abm.cycle.map (·.phase), t.abm.lastSweep)) =
      some (some .wait, .completed) ∧
    after .readTransactionStart (operated (.removal 20#32 .aging) polling) (·.abm.activity) = some .none ∧
    after .readTransactionStart (polling.hand (some (.miss 20#32))) (·.abm.activity) = some .none := by decide +kernel

theorem test_PollPhase_next : polling.mainRuns = true ∧ polling.abm.bus = .running ∧ polling.abm.activity = .none ∧
    after .readTransactionStart polling (·.abm.activity) = some (.attempt (.read 20#32 true) 1 none) ∧
    after .readTransactionStart (polling.withRotation 21#32) (·.abm.activity) = some (.attempt (.read 40#32 false) 1 none) ∧
    after .readTransactionStart (cycled ⟨.poll, 144000, 142768, 0, some 20#32⟩) (·.abm.activity) = some (.attempt (.read 40#32 false) 1 none) ∧
    after .readTransactionStart (cycled ⟨.poll, 144000, 142769, 0, some 20#32⟩) (fun t => (t.abm.rotation, t.abm.cycle)) =
      some (40#32, some ⟨.wait, 144000, 142769, 0, some 20#32⟩) ∧
    after .readTransactionStart (cycled ⟨.poll, 144000, 99, 0, some 40#32⟩) (·.abm.cycle) = some (some ⟨.wait, 144000, 99, 0, some 40#32⟩) ∧
    after .readTransactionStart ((cycled ⟨.poll, 144000, 99, 0, some 40#32⟩).withAbm { (cycled ⟨.poll, 144000, 99, 0, some 40#32⟩).abm with
      sweep := ⟨true, [⟨0, 7⟩, ⟨8, 15⟩]⟩ }) (fun t => (t.abm.activity, t.abm.sweep.stack)) =
      some (.attempt (.rollCall ⟨0, 7⟩) 1 none, [⟨8, 15⟩]) := by decide +kernel

/-- A READING of node 20 in zone 1 with 12 units and status OK, as it stands on the bus. -/
def readingFrame : List BusByte := (busFrame 0x82 (bytes32 20#32 ++ [1, 1, 0] ++ bytes16 12#16 ++ [0])).map busByte

theorem test_Receptions :
    after (.reading 22 readingFrame) (polling.withActivity (.attempt (.read 20#32 true) 1 none)) (·.abm.activity) =
      some (.attempt (.read 20#32 true) 1 (some (.reading 22 ⟨20#32, true, 1, .allocator, 12, .ok⟩))) ∧
    after (.reading 0 (readingFrame.drop 1)) (polling.withActivity (.attempt (.read 20#32 true) 1 none)) (·.abm.activity) =
      some (.attempt (.read 20#32 true) 1 (some .damaged)) ∧
    after (.here 5 ((busFrame 0x83 (bytes32 50#32 ++ [1, 2])).map busByte)) (polling.withActivity (.attempt (.rollCall ⟨0, 63⟩) 1 none))
      (·.abm.activity) = some (.attempt (.rollCall ⟨0, 63⟩) 1 (some (.here 5 ⟨50#32, 1, .submeter⟩))) ∧
    after (.enrolled 5 ((busFrame 0x84 (bytes32 50#32)).map busByte)) (polling.withActivity (.attempt (.enroll ⟨0, 63⟩ 50#32) 1 none))
      (·.abm.activity) = some (.attempt (.enroll ⟨0, 63⟩ 50#32) 1 (some (.enrolled 5 50#32))) ∧
    after .replyTimeout (polling.withActivity (.attempt (.read 20#32 true) 1 none)) (·.abm.activity) =
      some (.attempt (.read 20#32 true) 1 (some .timedOut)) ∧
    after .replyWindowClose (polling.withActivity (.attempt (.read 20#32 true) 1 none)) (·.abm.activity) =
      some (.attempt (.read 20#32 true) 1 (some .damaged)) ∧
    after .replyTimeout polling (·.abm.activity) = some .none ∧
    -- the bit times of the reception have then passed
    after .replyTimeout (polling.withActivity (.attempt (.read 20#32 true) 1 none)) (fun t => t.abm.cycle.map (·.passed)) = some (some 132) ∧
    after (.reading 22 readingFrame) (polling.withActivity (.attempt (.read 20#32 true) 1 none)) (fun t => t.abm.cycle.map (·.passed)) =
      some (some 297) ∧
    -- the last bit time at which each can come, and one more
    after .replyTimeout ((cycled ⟨.poll, 144000, 77, 132, none⟩).withActivity (.attempt (.read 20#32 true) 1 none)) (·.abm.activity) =
      some (.attempt (.read 20#32 true) 1 (some .timedOut)) ∧
    after .replyTimeout ((cycled ⟨.poll, 144000, 77, 133, none⟩).withActivity (.attempt (.read 20#32 true) 1 none)) (·.abm.activity) =
      some (.attempt (.read 20#32 true) 1 none) ∧
    after (.reading 22 readingFrame) ((cycled ⟨.poll, 144000, 77, 297, none⟩).withActivity (.attempt (.read 20#32 true) 1 none)) (·.abm.activity) =
      some (.attempt (.read 20#32 true) 1 (some (.reading 22 ⟨20#32, true, 1, .allocator, 12, .ok⟩))) ∧
    after (.reading 21 readingFrame) ((cycled ⟨.poll, 144000, 77, 297, none⟩).withActivity (.attempt (.read 20#32 true) 1 none)) (·.abm.activity) =
      some (.attempt (.read 20#32 true) 1 none) := by decide +kernel

theorem test_Frames : (∀ b, busByte b = ⟨b, evenParity b, true⟩) ∧ (busFrame 0x82 (List.replicate 10 0)).length = 15 ∧
    readingOf readingFrame = some ⟨20#32, true, 1, .allocator, 12, .ok⟩ ∧ evenParity 0x55 = false ∧ evenParity 0x01 = true :=
  ⟨fun _ => rfl, by decide +kernel, by decide +kernel, by decide, by decide⟩

/-- The driver is enabled for the BEACON's 77 and the READ's 110 bit times, the preamble 0x55 goes out from its least significant bit, and the lines
stand at the mark level where nothing is sent (R118, R170). -/
theorem test_Frames_pins :
    ((cycled ⟨.beacon, 144000, 0, 0, none⟩).withActivity .beacon).driverEnabled 76 = true ∧
    ((cycled ⟨.beacon, 144000, 0, 0, none⟩).withActivity .beacon).driverEnabled 77 = false ∧
    (polling.withActivity (.attempt (.read 20#32 true) 1 none)).driverEnabled 109 = true ∧
    (polling.withActivity (.attempt (.read 20#32 true) 1 none)).driverEnabled 110 = false ∧
    ((List.range 11).map fun t => (polling.withActivity (.attempt (.read 20#32 true) 1 none)).busTransmit t) =
      [false, true, false, true, false, true, false, true, false, false, true] ∧
    polling.busTransmit 0 = true ∧ polling.abm.bus ≠ .off ∧ home.hostTransmit 0 = true ∧
    (State.receiving home (.send ⟨0x81, .ok, .empty⟩)).hostTransmit 0 = false := by decide +kernel

/-- `polling` at the end of attempt `n` at node 20 that drew this reply, `t` bit times into its cycle. -/
def readEnds (n t : Nat) (reply : AttemptReply) : State :=
  (cycled ⟨.poll, 144000, t, 0, none⟩).withActivity (.attempt (.read 20#32 true) n (some reply))

theorem test_ReadAttemptEnd_outcomes :
    after .attemptEnd (readEnds 1 77 (.reading 0 ⟨20#32, true, 1, .allocator, 12, .ok⟩)) (fun t => (t.atu.handed, t.abm.cycle)) =
      some (some (.accept ⟨20#32, true, 1, .allocator, 12, .ok⟩), some ⟨.poll, 144000, 363, 0, some 20#32⟩) ∧
    after .attemptEnd (readEnds 1 77 (.reading 0 ⟨20#32, false, 1, .allocator, 12, .ok⟩)) (fun t => (t.atu.handed, t.abm.counters.duplicates)) =
      some (none, 1) ∧
    after .attemptEnd (readEnds 2 77 .timedOut) (fun t => (t.abm.activity, t.abm.counters.timeouts, t.abm.cycle)) =
      some (.attempt (.read 20#32 true) 3 none, 1, some ⟨.poll, 144000, 220, 0, none⟩) ∧
    after .attemptEnd (readEnds 3 77 .damaged) (fun t => (t.abm.activity, t.abm.counters.crcErrors, t.atu.handed)) =
      some (.none, 1, some (.miss 20#32)) ∧
    after .attemptEnd (readEnds 1 77 (.reading 0 ⟨21#32, true, 1, .allocator, 12, .ok⟩)) (·.abm.counters.wrongResponders) = some 1 ∧
    after .attemptEnd (readEnds 1 77 (.reading 0 ⟨20#32, true, 1, .allocator, 12, .busy⟩)) (·.abm.activity) =
      some (.attempt (.read 20#32 true) 2 none) := by decide +kernel

theorem test_ReadAttemptEnd_ends :
    after .attemptEnd (readEnds 1 142700 .timedOut) (fun t => (t.abm.rotation, t.abm.cycle)) =
      some (20#32, some ⟨.wait, 144000, 142843, 0, none⟩) ∧
    after .attemptEnd (readEnds 1 143900 .timedOut) (fun t => (t.abm.rotation, t.abm.cycleNumber, t.abm.totals.overruns)) =
      some (20#32, 10, 1) ∧
    after .attemptEnd ((readEnds 1 77 .timedOut).withAbm { (readEnds 1 77 .timedOut).abm with bus := .stopping }) (fun t => (t.abm.bus, t.abm.cycle)) =
      some (.off, none) ∧
    after .attemptEnd ((readEnds 1 77 .timedOut).withNodes []) (fun t => (t.abm.activity, t.abm.cycle)) =
      some (.none, some ⟨.poll, 144000, 220, 0, some 20#32⟩) := by decide +kernel

/-- The entry's removal in progress, a stop that waits, and the end of the budget (R125, R129, R137, R150). -/
theorem test_ReadAttemptEnd_met :
    after .attemptEnd (operated (.removal 20#32 .forget) (readEnds 1 77 (.reading 0 ⟨20#32, true, 1, .allocator, 12, .ok⟩)))
      (fun t => (t.atu.handed, t.abm.cycle)) = some (none, some ⟨.poll, 144000, 363, 0, some 20#32⟩) ∧
    after .attemptEnd (stopping (readEnds 1 77 (.reading 0 ⟨20#32, true, 1, .allocator, 12, .ok⟩))) (fun t => (t.abm.bus, t.atu.handed)) =
      some (.off, some (.accept ⟨20#32, true, 1, .allocator, 12, .ok⟩)) ∧
    after .attemptEnd (stopping (readEnds 1 77 (.reading 0 ⟨20#32, false, 1, .allocator, 12, .ok⟩)))
      (fun t => (t.abm.bus, t.abm.counters.duplicates, t.atu.handed)) = some (.off, 1, none) ∧
    after .attemptEnd (stopping (readEnds 3 77 .timedOut)) (fun t => (t.abm.bus, t.atu.handed)) = some (.off, some (.miss 20#32)) ∧
    after .attemptEnd (readEnds 1 143900 (.reading 0 ⟨20#32, false, 1, .allocator, 12, .ok⟩))
      (fun t => (t.abm.rotation, t.abm.cycleNumber, t.abm.totals.overruns, t.link.flags.cycleOverrun)) = some (40#32, 10, 1, true) ∧
    ¬isPresent (operated (.removal 20#32 .forget) polling) ⟨20#32, 1, .allocator, .active, true, 0, none, none, none, 0, false⟩ := by
  refine ⟨by decide +kernel, by decide +kernel, by decide +kernel, by decide +kernel, by decide +kernel, ?_⟩
  rw [isPresent_iff]
  decide +kernel

/-- `polling` in SWEEP, at the end of an attempt that drew this reply, with this stack. -/
def sweepEnds (t : Transaction) (n elapsed : Nat) (stack : List Range) (reply : AttemptReply) : State :=
  polling.withAbm { polling.abm with
    cycle := some ⟨.sweep, 144000, elapsed, 0, none⟩, sweep := ⟨true, stack⟩, activity := .attempt t n (some reply) }

theorem test_SweepAttemptEnd_rollCall :
    after .attemptEnd (sweepEnds (.rollCall ⟨0, 63⟩) 1 100 [] (.here 0 ⟨63#32, 1, .submeter⟩)) (·.atu.handed) =
      some (some (.learn (some ⟨0, 63⟩) ⟨63#32, 1, .submeter⟩)) ∧
    after .attemptEnd (sweepEnds (.rollCall ⟨0, 63⟩) 1 100 [] .timedOut) (fun t => (t.abm.sweep, t.abm.lastSweep, t.link.flags.sweepDone)) =
      some (⟨false, []⟩, .completed, true) ∧
    after .attemptEnd (sweepEnds (.rollCall ⟨0, 63⟩) 1 100 [⟨64, 127⟩] (.here 0 ⟨64#32, 1, .submeter⟩))
      (fun t => (t.abm.activity, t.abm.counters.wrongResponders)) = some (.attempt (.rollCall ⟨64, 127⟩) 1 none, 1) ∧
    after .attemptEnd (sweepEnds (.rollCall ⟨0, 63⟩) 1 142600 [⟨64, 127⟩] .timedOut) (fun t => (t.abm.cycle.map (·.phase), t.abm.sweep.stack)) =
      some (some .wait, [⟨64, 127⟩]) ∧
    after .attemptEnd (sweepEnds (.rollCall ⟨0, 63⟩) 1 100 (List.replicate 30 ⟨64, 127⟩) .damaged)
      (fun t => (t.abm.activity, t.abm.sweep.stack.head?, t.abm.sweep.stack.length)) =
      some (.attempt (.rollCall ⟨0, 31⟩) 1 none, some ⟨32, 63⟩, 31) ∧
    after .attemptEnd (sweepEnds (.rollCall ⟨0, 63⟩) 1 100 (List.replicate 31 ⟨64, 127⟩) .damaged) (·.abm.lastSweep) =
      some .abortedStackFull ∧
    after .attemptEnd (sweepEnds (.rollCall ⟨3, 3⟩) 1 100 [⟨64, 127⟩] .damaged) (·.abm.totals.unresolved) = some 1 := by decide +kernel

theorem test_SweepAttemptEnd_enroll :
    after .attemptEnd (sweepEnds (.enroll ⟨0, 63⟩ 50#32) 1 100 [] (.enrolled 0 50#32)) (·.atu.handed) =
      some (some (.setToggle (some ⟨0, 63⟩) 50#32)) ∧
    after .attemptEnd (sweepEnds (.enroll ⟨0, 63⟩ 50#32) 2 100 [] .timedOut) (·.abm.activity) =
      some (.attempt (.enroll ⟨0, 63⟩ 50#32) 3 none) ∧
    after .attemptEnd (sweepEnds (.enroll ⟨0, 63⟩ 50#32) 1 142700 [] (.enrolled 0 51#32)) (fun t => (t.abm.sweep.stack, t.abm.cycle.map (·.phase))) =
      some ([⟨0, 63⟩], some .wait) ∧
    after .attemptEnd (sweepEnds (.enroll ⟨0, 63⟩ 50#32) 3 100 [] .damaged) (fun t => (t.abm.activity, t.abm.sweep.stack, t.abm.totals.unresolved)) =
      some (.attempt (.rollCall ⟨0, 31⟩) 1 none, [⟨32, 63⟩], 0) := by decide +kernel

/-- A STOPPING bus, the end of the budget, and ranges of one serial (R125, R129, R141 to R143). -/
theorem test_SweepAttemptEnd_met :
    after .attemptEnd (stopping (sweepEnds (.rollCall ⟨0, 63⟩) 1 100 [] (.here 0 ⟨63#32, 1, .submeter⟩)))
      (fun t => (t.abm.bus, t.atu.handed, t.abm.lastSweep)) = some (.off, some (.learn none ⟨63#32, 1, .submeter⟩), .abortedStop) ∧
    after .attemptEnd (stopping (sweepEnds (.enroll ⟨0, 63⟩ 50#32) 1 100 [] (.enrolled 0 50#32))) (fun t => (t.abm.bus, t.atu.handed)) =
      some (.off, some (.setToggle none 50#32)) ∧
    after .attemptEnd (stopping (sweepEnds (.enroll ⟨0, 63⟩ 50#32) 1 100 [] .timedOut)) (fun t => (t.abm.bus, t.abm.sweep)) =
      some (.off, ⟨false, []⟩) ∧
    after .attemptEnd (sweepEnds (.rollCall ⟨0, 63⟩) 1 143900 [⟨64, 127⟩] .timedOut)
      (fun t => (t.abm.cycleNumber, t.abm.totals.overruns, t.abm.sweep.stack)) = some (10, 1, [⟨64, 127⟩]) ∧
    after .attemptEnd (sweepEnds (.rollCall ⟨0, 63⟩) 1 143900 [] .damaged) (fun t => (t.abm.cycleNumber, t.abm.sweep.stack)) =
      some (10, [⟨0, 31⟩, ⟨32, 63⟩]) ∧
    after .attemptEnd (sweepEnds (.enroll ⟨0, 63⟩ 50#32) 1 143900 [] .damaged) (fun t => (t.abm.cycleNumber, t.abm.sweep.stack)) =
      some (10, [⟨0, 63⟩]) ∧
    after .attemptEnd (sweepEnds (.rollCall ⟨3, 3⟩) 1 100 [] .damaged) (fun t => (t.abm.totals.unresolved, t.abm.lastSweep)) =
      some (1, .completed) ∧
    after .attemptEnd (sweepEnds (.enroll ⟨3, 3⟩ 3#32) 3 100 [⟨64, 127⟩] .damaged) (fun t => (t.abm.activity, t.abm.totals.unresolved)) =
      some (.attempt (.rollCall ⟨64, 127⟩) 1 none, 0) := by decide +kernel

/-! ### Nodes and points -/

/-- `polling` with node 20's reading handed over: 12 units, from this zone, with this status. -/
def accepting (z : ZoneNo) (k : NodeKind) (st : ReadingStatus) : State :=
  polling.hand (some (.accept ⟨20#32, true, z, k, 12, st⟩))

/-- A state with point 3 naming node 20 for account `a`, factor 1,500. -/
def pointed (a : AccountNo) (s : State) : State := s.withPoints (s.points.set 3 ⟨true, 20#32, none, .allocator, a, 1500⟩)

theorem test_AcceptanceAct_pool :
    after .acceptanceAct (accepting 4 .allocator .ok) (fun t => (t.atu.orphan, t.abm.totals.zoneInvalid, t.atu.counters.resolved)) = some (12, 1, 1) ∧
    after .acceptanceAct (accepting 4 .allocator .tamper) (fun t => (t.nodes.map (·.state), t.link.flags.nodeHalted)) =
      some ([.halted, .halted], true) ∧
    after .acceptanceAct (accepting 2 .allocator .tamper) (fun t => (t.nodes.map (·.tally), t.nodes.map (·.zone), t.abm.totals.migrations)) =
      some ([12, 9], [2, 1], 1) ∧
    after .acceptanceAct (accepting 1 .allocator .ok) (fun t => (t.zones[1].openU, t.atu.counters.unassigned, t.nodes.map (·.toggle))) =
      some (⟨12010, false⟩, 1, [false, false]) ∧
    after .acceptanceAct (polling.hand (some (.accept ⟨40#32, false, 1, .allocator, 65535, .ok⟩)))
      (fun t => (t.nodes.map (·.tally), t.atu.counters.quarantined, t.atu.counters.saturated)) = some ([0, 65544], 1, 1) := by decide +kernel

theorem test_AcceptanceAct_points :
    after .acceptanceAct (pointed 5 (accepting 1 .allocator .ok)) (fun t => (t.zones[1].members.map (·.openW.value), t.atu.counters.member)) =
      some ([18040, 60], 1) ∧
    after .acceptanceAct (pointed 5 (accepting 1 .submeter .ok)) (fun t => (t.zones[1].openU.value, t.atu.counters.mismatch)) =
      some (12010, 1) ∧
    after .acceptanceAct (pointed 8 (accepting 1 .allocator .ok)) (fun t => (t.zones[1].openU.value, t.atu.counters.nonMember)) =
      some (12010, 1) := by decide +kernel

/-- `polling` with a miss of this node handed over, and this node's misses and state. -/
def missing (misses : Nat) (st : NodeState) : State :=
  (polling.withNodes [⟨20#32, 1, .allocator, st, true, misses, none, none, none, 0, false⟩]).hand (some (.miss 20#32))

theorem test_MissAct :
    after .missAct (missing 1 .active) (fun t => (t.nodes.map (·.misses), t.nodes.map (·.state))) = some ([2], [.active]) ∧
    after .missAct (missing 2 .active) (fun t => (t.nodes.map (·.state), t.link.flags.nodeSilent, t.atu.op)) = some ([.silent], true, none) ∧
    after .missAct (missing 47 .silent) (·.atu.op) = some (some (.removal 20#32 .aging)) ∧
    after .missAct (missing 255 .halted) (fun t => (t.nodes.map (·.misses), t.atu.op)) = some ([255], none) ∧
    after .missAct ((missing 1 .active).withNodes []) (·.atu.handed) = some none ∧
    after .acceptanceAct ((accepting 1 .allocator .ok).withNodes []) (·.atu.handed) = some none ∧
    after .missAct ((missing 1 .active).withAtu { (missing 1 .active).atu with op := some (.removal 20#32 .aging) }) (·.atu.handed) =
      some (some (.miss 20#32)) := by decide +kernel

theorem test_LearningAct :
    after .learning (learns 50#32 4) (fun t => (t.abm.totals.zoneInvalid, t.abm.activity, t.abm.sweep.stack)) =
      some (1, .attempt (.rollCall ⟨0, 31⟩) 1 none, [⟨32, 63⟩]) ∧
    after .learning (learns 40#32 2) (fun t => (t.nodes.map (·.zone), t.nodes.map (·.state), t.abm.activity)) =
      some ([1, 2], [.active, .halted], .attempt (.enroll ⟨0, 63⟩ 40#32) 1 none) ∧
    after .learning (learns 50#32 2) (fun t => (t.atu.op, t.abm.activity)) =
      some (some (.insertion ⟨50#32, 2, .submeter⟩), .learning ⟨0, 63⟩ 50#32) ∧
    after .learning ((learns 50#32 2).withNodes (List.replicate 384 ⟨20#32, 1, .allocator, .active, true, 0, none, none, none, 0, false⟩))
      (fun t => (t.abm.lastSweep, t.abm.totals.tableFull, t.link.flags.nodeTableFull)) = some (.abortedTableFull, 1, true) ∧
    after .setExpectedToggle ((learns 40#32 2).hand (some (.setToggle (some ⟨0, 63⟩) 40#32))) (fun t => (t.nodes.map (·.toggle), t.abm.activity)) =
      some ([true, true], .attempt (.rollCall ⟨0, 63⟩) 1 none) ∧
    after .setExpectedToggle (((learns 40#32 2).hand (some (.setToggle (some ⟨0, 63⟩) 40#32))).elapse 142700) (·.abm.sweep.stack) =
      some [⟨0, 63⟩] := by decide +kernel

/-- A state with FORGET NODE taken for node 20, and its removal in progress. -/
def forgetting (s : State) : State :=
  (State.receiving s (.processTaken 0x46)).withAtu { s.atu with op := some (.removal 20#32 .forget) }

/-- A STOPPING bus, the end of the budget, a range of one serial, and acts that no sweep waits for any more (R125, R129, R141 to R143). -/
theorem test_LearningAct_met :
    after .learning (stopping (learns 40#32 2)) (fun t => (t.abm.bus, t.nodes.map (·.zone), t.abm.lastSweep)) =
      some (.off, [1, 2], .abortedStop) ∧
    after .learning (stopping (learns 50#32 2)) (fun t => (t.abm.bus, t.abm.activity)) = some (.stopping, .learning ⟨0, 63⟩ 50#32) ∧
    after .learning ((learns 40#32 2).elapse 144000) (fun t => (t.abm.cycleNumber, t.abm.totals.overruns, t.abm.sweep.stack)) =
      some (10, 1, [⟨0, 63⟩]) ∧
    after .learning ((learns 50#32 4).hand (some (.learn (some ⟨3, 3⟩) ⟨3#32, 4, .submeter⟩)))
      (fun t => (t.abm.totals.zoneInvalid, t.abm.totals.unresolved, t.abm.lastSweep)) = some (1, 0, .completed) ∧
    after .learning (home.hand (some (.learn none ⟨50#32, 2, .submeter⟩))) (·.atu.op) = some (some (.insertion ⟨50#32, 2, .submeter⟩)) ∧
    after .setExpectedToggle (beaconing.withNodes polling.nodes |>.hand (some (.setToggle none 40#32))) (fun t => t.nodes.map (·.toggle)) =
      some [true, true] ∧
    after .learning (polling.hand (some (.learn none ⟨20#32, 2, .submeter⟩))) (fun t => (t.nodes.map (·.zone), t.abm.cycle)) =
      some ([2, 1], some ⟨.poll, 144000, 77, 0, none⟩) := by decide +kernel

/-- `learns 30 2` with the insertion in progress that the sweep waits for, this long into the cycle. -/
def inserting (elapsed : Nat) : State :=
  operated (.insertion ⟨30#32, 2, .submeter⟩) ((learns 30#32 2).hand none) |>.withAbm { (learns 30#32 2).abm with
    cycle := some ⟨.sweep, 144000, elapsed, 0, none⟩, activity := .learning ⟨0, 63⟩ 30#32 }

/-- A STOPPING bus that waits, and waits after which the guard, the end of the budget or a stop prevents what would follow (R125, R129, R142). -/
theorem test_NodeTableOpEnd_met : (inserting 100).nodes = [⟨20#32, 1, .allocator, .active, true, 0, none, none, none, 0, false⟩] ++
      [⟨40#32, 1, .allocator, .halted, false, 2, none, none, none, 9, false⟩] ∧
    after (.nodeTableOpEnd 2) (stopping (inserting 100)) (fun t => (t.abm.bus, t.nodes.map (·.serial), t.abm.lastSweep)) =
      some (.off, [20#32, 30#32, 40#32], .abortedStop) ∧
    after (.nodeTableOpEnd 2) (inserting 142767) (fun t => (t.abm.sweep.stack, t.abm.cycle.map (·.phase))) =
      some ([⟨0, 63⟩], some .wait) ∧
    after (.nodeTableOpEnd 2) (inserting 143999) (fun t => (t.abm.sweep.stack, t.abm.cycleNumber, t.abm.totals.overruns)) =
      some ([⟨0, 63⟩], 10, 1) ∧
    after (.nodeTableOpEnd 2) (operated (.removal 20#32 .aging) (cycled ⟨.poll, 144000, 143999, 0, none⟩))
      (fun t => (t.abm.rotation, t.abm.cycleNumber, t.abm.totals.overruns)) = some (40#32, 10, 1) ∧
    after (.nodeTableOpEnd 2) (operated (.removal 20#32 .aging) (stopping (learns 50#32 2))) (fun t => (t.abm.bus, t.abm.cycle)) =
      some (.stopping, some ⟨.sweep, 144000, 102, 0, none⟩) := by decide +kernel

theorem test_NodeTableOpEnd :
    after (.nodeTableOpEnd 5) (((learns 30#32 2).hand none).withAtu { polling.atu with op := some (.insertion ⟨30#32, 2, .submeter⟩) }
        |>.withActivity (.learning ⟨0, 63⟩ 30#32)) (fun t => (t.nodes.map (·.serial), t.abm.activity, t.abm.cycle)) =
      some ([20#32, 30#32, 40#32], .attempt (.enroll ⟨0, 63⟩ 30#32) 1 none, some ⟨.sweep, 144000, 105, 0, none⟩) ∧
    after (.nodeTableOpEnd 5) (polling.withAtu { polling.atu with op := some (.removal 20#32 .aging) })
      (fun t => (t.nodes.map (·.serial), t.abm.cycle)) = some ([40#32], some ⟨.poll, 144000, 82, 0, none⟩) ∧
    content (.nodeTableOpEnd 0) ((State.receiving (home.withNodes polling.nodes) (.processTaken 0x46)).withAtu
      { home.atu with op := some (.removal 20#32 .forget) }) = some (.forgotten 20#32 1) ∧
    after (.nodeTableOpEnd 3) (forgetting (polling.withActivity (.attempt (.read 40#32 false) 1 none))) (fun t => (t.nodes.map (·.serial), t.abm.cycle)) =
      some ([40#32], some ⟨.poll, 144000, 77, 0, none⟩) ∧
    after (.nodeTableOpEnd 3) (forgetting polling) (·.abm.cycle) = some (some ⟨.poll, 144000, 80, 0, none⟩) ∧
    after (.nodeTableOpEnd 3) (forgetting (cycled ⟨.poll, 144000, 77, 5, none⟩)) (·.abm.cycle) = some (some ⟨.poll, 144000, 82, 0, none⟩) ∧
    after (.nodeTableOpEnd 3) (forgetting (cycled ⟨.wait, 144000, 900, 0, none⟩)) (·.abm.cycle) = some (some ⟨.wait, 144000, 900, 0, none⟩) ∧
    after (.nodeTableOpEnd 5) (forgetting (missing 1 .active)) (fun t => (t.abm.cycle, t.atu.handed)) =
      some (some ⟨.poll, 144000, 82, 0, none⟩, some (.miss 20#32)) := by decide +kernel

/-- `polling` with a Node Table operation in progress. -/
def operating : State := polling.withAtu { polling.atu with op := some (.insertion ⟨50#32, 1, .allocator⟩) }

theorem test_NodeRequests_read_forget : polling.canTake (.readNode 0 383) = true ∧ status (.readNode 2 0) polling = some .badValue ∧
    status (.readNode 0 384) polling = some .badValue ∧ status (.readNode 1 20) operating = some .notReady ∧
    content (.readNode 0 2) polling = some (.nodeRecord 2 none) ∧
    content (.readNode 1 40#32) polling = some (.nodeRecord 2 (some ⟨1, ⟨40#32, 1, .allocator, .halted, false, 2, none, none, none, 9, false⟩, none⟩)) ∧
    polling.canTake (.forgetNode 20#32) = true ∧ status (.forgetNode 20#32) operating = some .notReady ∧
    status (.forgetNode 21#32) polling = some .badIndex ∧ status (.forgetNode 40#32) polling = some .wrongState ∧
    after (.forgetNode 20#32) polling (fun t => (t.atu.op, t.link.receiver)) = some (some (.removal 20#32 .forget), .processTaken 0x46) := by
  decide +kernel

theorem test_NodeRequests_release : polling.canTake (.releaseNode 40#32 0) = true ∧ status (.releaseNode 40#32 2) polling = some .badValue ∧
    status (.releaseNode 40#32 1) operating = some .notReady ∧ status (.releaseNode 41#32 1) polling = some .badIndex ∧
    status (.releaseNode 20#32 1) polling = some .wrongState ∧
    after (.releaseNode 40#32 0) polling (fun t => (t.atu.discarded, t.nodes.map (·.state), t.nodes.map (·.tally))) =
      some (9, [.active, .active], [0, 0]) ∧
    after (.releaseNode 40#32 1) polling (·.zones[1].openU) = some ⟨9010, false⟩ ∧
    status (.releaseNode 40#32 1) (polling.updZone 1 fun z => { z with state := .queued }) = some .busy ∧
    status (.releaseNode 40#32 1) (polling.updZone 1 fun z => { z with state := .unused }) = some .wrongState := by decide +kernel

theorem test_PointRequests : home.canTake (.writePoint 63 20#32 0xFF 0 5 1) = true ∧ status (.writePoint 64 20#32 0xFF 0 5 1) home = some .badIndex ∧
    status (.writePoint 63 20#32 16 0 5 1) home = some .badValue ∧ status (.writePoint 63 20#32 15 3 5 1) home = some .badValue ∧
    status (.writePoint 63 20#32 15 2 0 1) home = some .badValue ∧ status (.writePoint 63 20#32 15 2 128 1) home = some .badValue ∧
    status (.writePoint 63 20#32 15 2 127 0) home = some .badValue ∧ status (.writePoint 63 20#32 15 2 127 1) (pointed 5 home) = some .conflict ∧
    after (.writePoint 3 20#32 15 2 127 65535) (pointed 5 home) (·.points[3]) = some ⟨true, 20#32, some 15, .submeter, 127, 65535⟩ ∧
    home.canTake (.clearPoint 3) = true ∧ status (.clearPoint 64) home = some .badIndex ∧
    after (.clearPoint 3) (pointed 5 home) (·.points[3].valid) = some false ∧
    home.canTake (.readPoint 3) = true ∧ status (.readPoint 64) home = some .badIndex ∧
    content (.readPoint 3) (pointed 5 polling) = some (.pointRecord ⟨true, 20#32, none, .allocator, 5, 1500⟩ 1 (some (.active, 1))) := by
  decide +kernel

/-! ### Settlement and ledgers -/

/-- `home` after the close of zone 1. -/
def closed : State := home.closeZone 1 .immediate ⟨some 1001, none⟩

theorem test_TakeGatherRelease :
    after .senTakeZone closed (fun t => (t.zones[1].state, t.queue, t.sen.stage)) = some (.settling, [], .gather) ∧
    after .gather (run [.senTakeZone] closed) (fun t => t.sen.scratch.gathered.map fun g => (g.p, g.members, g.u, g.standing)) =
      some (some (#v[100, 0, 0, 0], [⟨5, 600, 40⟩, ⟨7, 400, 60⟩], 10, some 1001)) ∧
    after .release ((run [.senTakeZone] closed).withSen ⟨.release, some 1, .empty⟩)
      (fun t => (t.zones[1].state, t.zones[1].closing, t.link.flags.settled, t.sen.stage)) = some (.opened, .zero, 2, .idle) ∧
    after .senTakeZone ((closed.withRecords (closed.records.set 1 { SettlementRecord.cold with number := 1 }))) (·.sen.stage) =
      some .release := by
  refine ⟨?_, ?_, ?_, ?_⟩ <;> decide +kernel

/-- 100 Wh at 300 per mille, units 40, 60 and 10: 30 fixed, 70 consumed as 26, 38 and 6, 36 by area as 22 and 14. -/
theorem test_DivisionStages :
    after .fixed (run [.senTakeZone, .gather] closed) (fun t => t.sen.scratch.fixed) = some (some ⟨#v[30, 0, 0, 0], #v[70, 0, 0, 0]⟩) ∧
    after .consumption (run [.senTakeZone, .gather, .fixed] closed) (fun t => t.sen.scratch.consumption.map fun k =>
      (k.shares[0], k.unattributed[0], k.g[0], k.allArea)) = some (some ([26, 38], 6, 36, false)) ∧
    after .area (run [.senTakeZone, .gather, .fixed, .consumption] closed) (fun t => t.sen.scratch.area.map (·[0])) = some (some [22, 14]) ∧
    after .standing (run [.senTakeZone, .gather, .fixed, .consumption, .area] closed) (fun t => t.sen.scratch.standing) =
      some (some [601, 400]) := by decide +kernel

theorem test_ApportionExact : 0 < [1, 1, 1].sum ∧ apportion 5 [1, 1, 1] = [2, 2, 1] ∧ apportion 10 [0, 3, 4] = [0, 4, 6] ∧
    apportion 0 [7, 9] = [0, 0] := by decide +kernel

theorem test_NothingLost :
    (run [.senTakeZone, .gather] closed).sen.stage = .fixed ∧ (run [.senTakeZone, .gather] closed).mainRuns = true ∧
    ((run [.senTakeZone, .gather] closed).sen.scratch.gathered.map fun g => (g.members.map (·.area), g.fixedShare)) = some ([600, 400], 300) ∧
    ((run [.senTakeZone, .gather, .fixed, .consumption, .area, .standing] closed).sen.scratch.area.isSome = true) := by decide +kernel

theorem test_Post : (run [.senTakeZone, .gather, .fixed, .consumption, .area, .standing] closed).sen.stage = .post ∧
    after .post (run [.senTakeZone, .gather, .fixed, .consumption, .area, .standing] (closed.withPrices ⟨#v[80, 0, 0, 0], Bands.zero⟩))
      (fun t => (t.ledgers[5].unbilled.energy.heating[0], t.ledgers[5].unbilled.cost.heating[0], t.ledgers[5].unbilled.standing,
        t.ledgers[0].unbilled.energy.heating[0], t.ledgers[0].unbilled.standing, t.house)) =
      some (48, 3840, 601, 52, 400, ⟨52, 0⟩) ∧
    after .post (run [.senTakeZone, .gather, .fixed, .consumption, .area, .standing] closed)
      (fun t => (t.records[1].number, t.records[1].bands[0], t.ledgers[7].unbilled.count, t.sen.stage)) =
      some (1, ⟨100, 30, 70, 6, 52⟩, 0, .release) ∧
    after .post (run [.senTakeZone, .gather, .fixed, .consumption, .area, .standing]
        ((home.updZone 1 fun z => { z with members := [] }).closeZone 1 .immediate ⟨none, none⟩)) (fun t => (t.house, t.ledgers[0].lifetime.energy.heating)) =
      some (⟨0, 100⟩, 100) := by
  refine ⟨?_, ?_, ?_, ?_⟩ <;> decide +kernel

theorem test_StatementRequests : closed.canTake (.readSettlement 1) = true ∧ status (.readSettlement 16) closed = some .badIndex ∧
    content (.readSettlement 1) closed = some (.settlement ⟨1, .queued, 1, 1, some 0, none, .cold⟩) ∧
    closed.canTake (.peekStatement 5 0) = true ∧ status (.peekStatement 128 0) closed = some .badIndex ∧
    status (.peekStatement 5 2) closed = some .badValue ∧ status (.peekStatement 5 1) closed = some .ok ∧
    (match content (.peekStatement 5 0) closed with
      | some (.statement st) => st.pending
      | _ => false) = true ∧
    closed.canTake (.collectStatement 5) = true ∧ status (.collectStatement 128) closed = some .badIndex ∧
    status (.collectStatement 5) closed = some .notReady ∧ status (.collectStatement 0) closed = some .notReady ∧
    after (.collectStatement 8) closed (fun t => (t.ledgers[8].number, t.ledgers[8].last.kind)) = some (1, .lastCollected) ∧
    after (.collectStatement 0) (home.withHouse ⟨3, 4⟩) (·.house) = some ⟨0, 0⟩ := by decide +kernel

/-! ### Supplies and starts -/

/-- A settlement in progress with the bus RUNNING and zone 2 ARMED. -/
def working : State :=
  ((((run [.senTakeZone] closed).withAbm { polling.abm with sweep := ⟨true, []⟩ }).updZone 2 fun z => { z with state := .armed }).withTcv measuring.tcv)

theorem test_MainDomainStops : working.mainRuns = true ∧ working.ssv.mainPresent = true ∧ working.ssv.qualifying = false ∧
    after (.mainSupplyLoss true) working (fun t => (t.ssv.supply, t.queue, t.zones[1].state, t.zones[2].lastCause)) =
      some (.backup, [1, 2], .queued, .busStop) ∧
    after (.mainSupplyLoss true) working (fun t => (t.abm.sweepLost, t.tcv.round)) = some (true, none) ∧
    after .resetAssert working (fun t => (t.ssv.supply, t.ssv.domain, t.queue, t.abm.bus, t.link.flags.supplyBackup)) =
      some (.main, .held, [1, 2], .running, false) := by
  refine ⟨?_, ?_, ?_, ?_, ?_, ?_⟩ <;> decide +kernel

/-- A supervisor in this condition. -/
def supplied (v : Ssv) : State := home.withSsv v

theorem test_SupplyEvents :
    after (.mainSupplyLoss true) (supplied ⟨.backup, true, true, true, false, .off, true⟩) (·.ssv) =
      some ⟨.backup, true, false, false, false, .off, true⟩ ∧
    after (.mainSupplyLoss false) home (·.ssv) = some ⟨.main, false, false, false, false, .off, false⟩ ∧
    after (.mainSupplyLoss true) (supplied ⟨.main, true, true, false, true, .held, true⟩) (fun t => (t.ssv, t.link.flags.supplyBackup)) =
      some (⟨.backup, true, false, false, true, .off, true⟩, true) ∧
    after (.mainSupplyLoss true) (supplied ⟨.main, false, true, false, false, .coldStart, true⟩) (fun t => (t.ssv, t.link.flags.supplyBackup)) =
      some (⟨.backup, false, false, false, false, .off, true⟩, true) ∧
    after .mainSupplyRise (supplied ⟨.backup, true, false, false, false, .off, true⟩) (·.ssv.qualifying) = some true ∧
    after .retentionLoss (supplied ⟨.backup, true, false, false, false, .off, true⟩) (·.ssv.markerValid) = some false ∧
    after .retentionLoss home (·.ssv.markerValid) = some true ∧
    after .qualificationComplete (supplied ⟨.backup, true, true, true, true, .off, true⟩) (·.ssv) =
      some ⟨.main, true, true, false, true, .held, true⟩ ∧
    after .resetAssert (supplied ⟨.backup, true, false, false, false, .off, true⟩) (·.ssv.domain) = some .off ∧
    after .resetAssert (supplied ⟨.main, false, true, false, false, .coldStart, true⟩) (·.ssv) =
      some ⟨.main, false, true, false, true, .held, true⟩ ∧
    after .resetRelease (supplied ⟨.backup, true, false, false, true, .off, true⟩) (·.ssv.resetAsserted) = some false := by decide +kernel

theorem test_Starts :
    after .qualificationComplete (supplied ⟨.backup, true, true, true, false, .off, true⟩)
      (fun t => (t.ssv, t.link.startCount, t.link.lastStart, t.link.flags.supplyMain)) =
      some (⟨.main, true, true, false, false, .running, true⟩, 1, .warm, true) ∧
    after .qualificationComplete (supplied ⟨.backup, true, true, true, false, .off, true⟩) (fun t => (t.tcv.round.isSome, t.abm.cycle)) =
      some (true, none) ∧
    after .resetRelease ((supplied ⟨.main, true, true, false, true, .held, true⟩).withAbm { home.abm with bus := .running })
      (fun t => (t.abm.cycleNumber, t.abm.activity, t.abm.rotation)) = some (1, .beacon, 0) ∧
    after .qualificationComplete (supplied ⟨.backup, false, true, true, false, .off, true⟩) (fun t => (t.ssv.domain, t.accounts[5])) =
      some (.coldStart, .free) := by
  refine ⟨?_, ?_, ?_, ?_⟩ <;> decide +kernel

/-! ### The hypotheses of the statements, met together -/

theorem test_meets_gates : measuring.mainRuns = true ∧ measuring.tcv.round = some ⟨.sensor 4, [5], 4096, some 400000, false, none⟩ ∧
    (.valid 5500 false : SensorResult) = classify measuring.tcv.calibration[4] ⟨.sensor 4, [5], 4096, some 400000, false, none⟩ (some 484700) ∧
    measuring.tcv.last[4] = .cold ∧ measuring.channels[2].state ≠ .disabled := by
  refine ⟨?_, ?_, ?_, ?_, ?_⟩ <;> decide +kernel

theorem test_meets_ticks : (sampled rising).inputs[2] = rising ∧ rising.running = true ∧ (sampled rising).ssv.powered = true ∧
    rising.handover = none ∧ ({ rising with handover := some ⟨9, true, true⟩ } : Input).running = true ∧ (2048 : Nat) = min (rising.counter + 1) 16777215 ∧ rising.accepted ≠ some .high ∧ rising.accepted ≠ none ∧
    rising.edge = .rising ∧ rising.candidate = some .high ∧ 2 * rising.filter ≤ rising.stability + 1 ∧
    min (rising.counter + 1) 16777215 = { rising with noFlowLimit := 2 }.noFlowLimit * 1024 ∧ rising.accepted = some .low := by decide +kernel

theorem test_meets_pulses : home.channels[2].state = .running ∧ home.channels[2].flow.set = true ∧ home.channels[2].ret.set = true ∧
    home.channels[2].mode = .heating ∧ home.channels[2].flow.value - home.channels[2].ret.value = 1000 ∧ home.channels[3].state = .disabled ∧
    home.channels[2].pulseValue ≤ 65535 ∧ home.channels[2].k ≤ 65535 ∧ home.channels[2].carry < 100000000 := by decide +kernel

theorem test_meets_BeaconInstant : (cycled ⟨.poll, 144000, 144001, 0, some 20#32⟩).mainRuns = true ∧
    (cycled ⟨.poll, 144000, 144001, 0, some 20#32⟩).abm.bus = .running ∧ (cycled ⟨.poll, 144000, 144001, 0, some 20#32⟩).abm.activity = .none ∧
    (cycled ⟨.poll, 144000, 144001, 0, some 20#32⟩).atu.handed = none ∧ (cycled ⟨.poll, 144000, 144001, 0, some 20#32⟩).atu.op = none ∧
    (cycled ⟨.poll, 144000, 144001, 0, some 20#32⟩).abm.cycle = some ⟨.poll, 144000, 144001, 0, some 20#32⟩ ∧
    isNextEntry (cycled ⟨.poll, 144000, 144001, 0, some 20#32⟩) ⟨.poll, 144000, 144001, 0, some 20#32⟩
      ⟨40#32, 1, .allocator, .halted, false, 2, none, none, none, 9, false⟩ := by
  refine ⟨by decide +kernel, by decide +kernel, by decide +kernel, by decide +kernel, by decide +kernel, by decide +kernel, ?_⟩
  simp only [isNextEntry, isAhead_iff, isPresent_iff]
  decide +kernel

theorem test_meets_PollPhase : polling.atu.handed = none ∧ polling.atu.op = none ∧ polling.nodes ≠ [] ∧
    polling.abm.cycle = some ⟨.poll, 144000, 77, 0, none⟩ ∧ polling.abm.config.guard ≤ 144000 - 77 ∧
    isNextEntry polling ⟨.poll, 144000, 77, 0, none⟩ ⟨20#32, 1, .allocator, .active, true, 0, none, none, none, 0, false⟩ ∧
    ∀ e ∈ polling.nodes, ¬isAhead polling ⟨.poll, 144000, 99, 0, some 40#32⟩ e := by
  refine ⟨by decide +kernel, by decide +kernel, by decide +kernel, by decide +kernel, by decide +kernel, ?_, ?_⟩ <;>
    simp only [isNextEntry, isAhead_iff, isPresent_iff] <;> decide +kernel

theorem test_meets_ReadAttemptEnd : (readEnds 1 77 .timedOut).mainRuns = true ∧
    (readEnds 1 77 .timedOut).abm.activity = .attempt (.read 20#32 true) 1 (some .timedOut) ∧
    (readEnds 1 77 .timedOut).abm.cycle = some ⟨.poll, 144000, 77, 0, none⟩ ∧ (readEnds 1 77 .timedOut).atu = .cold ∧
    (readEnds 1 77 .timedOut).abm.bus = .running ∧ (∃ y ∈ (readEnds 1 77 .timedOut).nodes, y.serial = 20#32) ∧
    failedRead 20#32 .timedOut .zero { BusCounters.zero with timeouts := 1 } ∧
    failedRead 20#32 .damaged .zero { BusCounters.zero with crcErrors := 1 } ∧
    failedRead 20#32 (.reading 0 ⟨21#32, true, 1, .allocator, 12, .ok⟩) .zero { BusCounters.zero with wrongResponders := 1 } ∧
    failedRead 20#32 (.reading 0 ⟨20#32, true, 1, .allocator, 12, .busy⟩) .zero .zero ∧ 1 ≤ polling.abm.config.retryLimit :=
  ⟨by decide +kernel, by decide +kernel, by decide +kernel, by decide +kernel, by decide +kernel, by decide +kernel,
    .inl ⟨rfl, by decide⟩, .inr (.inl ⟨rfl, by decide⟩), .inr (.inr (.inl ⟨0, _, rfl, by decide, by decide⟩)),
    .inr (.inr (.inr ⟨0, _, rfl, rfl, rfl, rfl⟩)), by decide +kernel⟩

theorem test_meets_SweepAttemptEnd : (sweepEnds (.rollCall ⟨0, 63⟩) 1 100 [] .timedOut).mainRuns = true ∧
    (sweepEnds (.rollCall ⟨0, 63⟩) 1 100 [] .timedOut).abm.bus = .running ∧
    (sweepEnds (.rollCall ⟨0, 63⟩) 1 100 [] .timedOut).abm.cycle = some ⟨.sweep, 144000, 100, 0, none⟩ ∧
    (sweepEnds (.rollCall ⟨0, 63⟩) 1 100 [] .timedOut).abm.sweep.active = true ∧
    (sweepEnds (.rollCall ⟨0, 63⟩) 1 100 [] .timedOut).abm.activity = .attempt (.rollCall ⟨0, 63⟩) 1 (some .timedOut) ∧
    (sweepEnds (.rollCall ⟨0, 63⟩) 1 100 [] .timedOut).atu.handed = none ∧ 100 + attemptLength (.rollCall ⟨0, 63⟩) .timedOut < 144000 := by
  decide +kernel

theorem test_meets_acts : (accepting 1 .allocator .ok).mainRuns = true ∧ (accepting 1 .allocator .ok).atu.op = none ∧
    (accepting 1 .allocator .ok).atu.handed = some (.accept ⟨20#32, true, 1, .allocator, 12, .ok⟩) ∧
    (accepting 1 .allocator .ok).nodes = [] ++ ⟨20#32, 1, .allocator, .active, true, 0, none, none, none, 0, false⟩ ::
      [⟨40#32, 1, .allocator, .halted, false, 2, none, none, none, 9, false⟩] ∧
    (missing 2 .active).mainRuns = true ∧ (missing 2 .active).atu.handed = some (.miss 20#32) ∧ (missing 2 .active).atu.op = none ∧
    (missing 2 .active).nodes = [] ++ ⟨20#32, 1, .allocator, .active, true, 2, none, none, none, 0, false⟩ :: [] := by decide +kernel

theorem test_meets_LearningAct : (learns 50#32 2).mainRuns = true ∧ (learns 50#32 2).atu.op = none ∧ (learns 50#32 2).abm.bus = .running ∧
    (learns 50#32 2).abm.activity = .none ∧ (learns 50#32 2).abm.cycle = some ⟨.sweep, 144000, 100, 0, none⟩ ∧
    (learns 50#32 2).abm.sweep.active = true ∧ (learns 50#32 2).abm.config.guard ≤ 144000 - 100 ∧
    (learns 50#32 2).zones[(2 : ZoneNo)].state ≠ .unused ∧ (∀ y ∈ (learns 50#32 2).nodes, y.serial ≠ 50#32) := by decide +kernel

theorem test_meets_stages : (run [.senTakeZone] closed).mainRuns = true ∧ (run [.senTakeZone] closed).sen.stage = .gather ∧
    (run [.senTakeZone] closed).sen.zone = some 1 ∧ closed.sen.stage = .idle ∧ closed.queue = [1] ∧
    (run [.senTakeZone, .gather, .fixed] closed).sen.stage = .consumption ∧
    (run [.senTakeZone, .gather, .fixed, .consumption] closed).sen.stage = .area ∧
    (run [.senTakeZone, .gather, .fixed, .consumption, .area] closed).sen.stage = .standing ∧
    (run [.senTakeZone, .gather, .fixed, .consumption, .area, .standing, .post] closed).sen.stage = .release ∧
    ((run [.senTakeZone, .gather, .fixed, .consumption, .area, .standing] closed).sen.scratch.gathered.map fun g =>
      g.members.map (·.account)) = some [5, 7] := by
  refine ⟨?_, ?_, ?_, ?_, ?_, ?_, ?_, ?_, ?_, ?_⟩ <;> decide +kernel

/-- A part held in reset, as the stop of the main domain leaves it. -/
def held : State := State.receiving (supplied ⟨.main, true, true, false, true, .held, true⟩) .discard

theorem test_meets_SupplyEvents : held.ssv.mainPresent = true ∧ held.ssv.qualifying = false ∧ held.ssv.domain = .held ∧ held.Quiescent ∧
    held.BusSound ∧ after (.mainSupplyLoss true) held (·.ssv.domain) = some .off := by
  refine ⟨rfl, rfl, rfl, fun _ => by decide +kernel, ?_, by decide +kernel⟩
  refine ⟨by decide +kernel, by decide +kernel, fun _ => rfl, fun r h => ?_, fun a r h => ?_, fun _ => by decide +kernel, fun _ => by decide +kernel⟩
  · cases show (none : Option Range) = some r from h
  · cases show (none : Option HandedAct) = some a from h

/-- The terms of the rules that the statements spell out: a SETTLE entry's terms, the scan set, a matching point, an addition beyond a limit. -/
theorem test_meets_terms : givesTerms ⟨1, 0, some 7, none⟩ ⟨some 7, none⟩ ∧
    givesTerms ⟨1, 1, none, some #v[1, 2, 3, 4]⟩ ⟨none, some #v[1, 2, 3, 4]⟩ ∧ isScanSet home [4, 5] ∧ isScanSet ready [] ∧
    pointMatches ⟨true, 20#32, none, .allocator, 5, 1500⟩ 20#32 15 ∧ ¬pointMatches ⟨false, 20#32, some 15, .allocator, 5, 1500⟩ 20#32 15 ∧
    goesBeyond (Ledger.cold 5) .heating (fun b => if b = 3 then 2 ^ 40 else 0) (fun _ => 0) 0 ∧
    ¬goesBeyond (Ledger.cold 5) .heating (fun _ => 2 ^ 40 - 1) (fun _ => 65535) (2 ^ 64 - 1) := by
  refine ⟨⟨rfl, fun _ => rfl, fun v h => by simp at h⟩, ⟨rfl, fun h => by simp at h, fun v h => ⟨#v[1, 2, 3, 4], rfl, ?_⟩⟩, ?_, ?_, ?_, ?_, ?_, ?_⟩
  · simp only [Option.some.injEq] at h
    subst h
    decide
  · exact (isScanSet_iff _ _).2 (by decide +kernel)
  · exact (isScanSet_iff _ _).2 (by decide +kernel)
  · exact (pointMatches_iff _ _ _).2 (by decide)
  · exact fun h => absurd ((pointMatches_iff _ _ _).1 h) (by decide)
  · exact .inl ⟨3, .inl (by decide +kernel)⟩
  · rw [goesBeyond]
    decide +kernel

/-- A state with every invariant, and its step. -/
theorem test_meets_invariants : polling.QueueSound ∧ polling.AccountsSound ∧ polling.MembersSound ∧ polling.PointsSound ∧ polling.ClosingSound ∧
    polling.CarryBelow ∧ polling.InputsFollow ∧ polling.StatesMirror ∧ polling.HandoversFollow ∧ polling.SupplySound ∧
    polling.QuarantineSound ∧ polling.BusSound ∧ (step (polling.withPending [.busOff]) = exec .busOff polling) := by
  refine ⟨?_, ?_, ?_, ?_, ?_, ?_, ?_, ?_, ?_, ?_, ?_, ?_, rfl⟩
  · unfold State.QueueSound; decide +kernel
  · unfold State.AccountsSound; decide +kernel
  · unfold State.MembersSound; decide +kernel
  · unfold State.PointsSound; decide +kernel
  · unfold State.ClosingSound; decide +kernel
  · unfold State.CarryBelow; decide +kernel
  · unfold State.InputsFollow; decide +kernel
  · unfold State.StatesMirror; decide +kernel
  · unfold State.HandoversFollow; decide +kernel
  · unfold State.SupplySound; decide +kernel
  · unfold State.QuarantineSound; decide +kernel
  · refine ⟨by decide +kernel, by decide +kernel, fun _ => rfl, fun r h => ?_, fun a r h => ?_, fun h => absurd h (by decide +kernel),
      fun h => absurd rfl h⟩
    · cases show (none : Option Range) = some r from h
    · cases show (none : Option HandedAct) = some a from h

theorem test_meets_TableSound : polling.TableSound ∧ State.reset.Quiescent :=
  ⟨⟨by decide +kernel, by decide +kernel, fun h e => absurd (show (none : Option NodeOp) = some (.insertion h) from e) (by simp)⟩,
    fun e => absurd rfl e⟩

end Sys2Proof.Machine.Tests
end

/-! SUPPORT and PROOFS. The account requests (R1 to R5): what the account number selects, what their owners ask of the state, and the statement about
their checks and effects. -/

namespace Sys2Proof.Machine

/-! ### The account number (R2) -/

theorem accountOf_eq_none {b : Byte} (h : 127 < b.toNat) : accountOf b = none :=
  dif_neg (Nat.not_lt.2 h)

theorem accountOf_zero : accountOf 0#8 = some 0 := rfl

/-- A number above 127 names no account, and the house account is not the host's to open or close. -/
theorem withAccount_bad {b : Byte} (h : 127 < b.toNat ∨ b = 0#8) (s : State) (k : AccountNo → Answer) :
    withAccount b s k = refuse .badIndex s := by
  rcases h with h | rfl
  · simp only [withAccount, accountOf_eq_none h]
  · simp only [withAccount, accountOf_zero, if_true]

theorem withAccount_good {b : Byte} {a : AccountNo} (hb : accountOf b = some a) (h0 : a ≠ 0) (s : State) (k : AccountNo → Answer) :
    withAccount b s k = k a := by
  simp only [withAccount, hb, if_neg h0]

/-! ### What the owners ask of the state (R5, R48) -/

/-- The itemisation counts for the house account alone, so another account has only its unbilled part to be zero. -/
theorem State.not_ledgerZero_iff (s : State) {a : AccountNo} (h0 : a ≠ 0) : (!s.ledgerZero a) = true ↔ s.ledgers[a].unbilled ≠ .zero := by
  simp [State.ledgerZero, h0]

theorem State.isMember_iff (s : State) (a : AccountNo) : s.isMember a = true ↔ ∃ z : ZoneNo, s.zones[z].hasMember a = true := by
  simp [State.isMember, mem_allZones]

/-! ### The owners on an account's number: the checks in their order, which read nothing of LINK (R3 to R5) -/

section Owners
variable {b : Byte} {a : AccountNo}

theorem openAccountOwner_withLink (hb : accountOf b = some a) (h0 : a ≠ 0) (s : State) (l : Link) : openAccountOwner b (s.withLink l) =
    if s.accounts[a] = .opened then refuse .wrongState (s.withLink l)
    else if s.ledgers[a].unbilled ≠ .zero then refuse .uncollected (s.withLink l)
    else (s.withLink l).moveAccount a .opened := by
  simp only [openAccountOwner, withAccount_good hb h0, State.not_ledgerZero_iff _ h0, State.withLink_accounts, State.withLink_ledgers]

theorem vacateAccountOwner_withLink (hb : accountOf b = some a) (h0 : a ≠ 0) (s : State) (l : Link) : vacateAccountOwner b (s.withLink l) =
    if s.accounts[a] = .opened then (s.withLink l).moveAccount a .vacant else refuse .wrongState (s.withLink l) :=
  withAccount_good hb h0 ..

theorem freeAccountOwner_withLink (hb : accountOf b = some a) (h0 : a ≠ 0) (s : State) (l : Link) : freeAccountOwner b (s.withLink l) =
    if s.accounts[a] ≠ .vacant then refuse .wrongState (s.withLink l)
    else if ∃ z : ZoneNo, s.zones[z].hasMember a = true then refuse .conflict (s.withLink l)
    else if s.ledgers[a].unbilled ≠ .zero then refuse .uncollected (s.withLink l)
    else (s.withLink l).moveAccount a .free := by
  simp only [freeAccountOwner, withAccount_good hb h0, State.not_ledgerZero_iff _ h0, State.isMember_iff, State.withLink_accounts,
    State.withLink_zones, State.withLink_ledgers]

end Owners

/-! ### The two ends of a request that is answered at once (R2, R173) -/

section Ends
variable {s : State} {i : Instr} {type : Byte} {owner : State → Answer}

/-- A taken request that its owner refuses changes nothing but LINK, which answers. -/
theorem State.next_take_of_refuse {st : Status} (h : s.canTake i = true) (ho : ∀ l : Link, owner (s.withLink l) = refuse st (s.withLink l)) :
    Host.Outcome.next (s.take i type owner) = (.next (s.answered type st .empty) : Host.Outcome State Fault Refusal) :=
  congrArg _ (State.take_same h ho)

/-- A taken request whose owner moves the account changes that account's state alone, and LINK answers with the new state. -/
theorem State.next_take_of_moveAccount {a : AccountNo} {st : AccountState} (h : s.canTake i = true)
    (ho : ∀ l : Link, owner (s.withLink l) = (s.withLink l).moveAccount a st) :
    Host.Outcome.next (s.take i type owner) =
      (.next ((s.answered type .ok (.accountState a st)).withAccounts (s.accounts.set a st)) : Host.Outcome State Fault Refusal) :=
  congrArg _ (State.take_accept (f := fun t => t.withAccounts (t.accounts.set a st)) h ho (fun _ _ => rfl) (fun _ => rfl))

end Ends

/-! ### The statement -/

/-- Settles O14. A bad number is refused by what the three requests share; on an account's number each clause follows one path through the
owner's checks. -/
theorem accountRequestChecks : Obligations.AccountRequestChecks := by
  unfold Obligations.AccountRequestChecks
  refine ⟨fun b s h => ⟨fun hbad => ?_, fun a hb h0 => ?openAccount⟩, fun b s h => ⟨fun hbad => ?_, fun a hb h0 => ?vacateAccount⟩,
    fun b s h => ⟨fun hbad => ?_, fun a hb h0 => ?freeAccount⟩⟩
  case openAccount =>
    have howner := openAccountOwner_withLink hb h0 s
    refine ⟨fun hopen => ?_, fun hopen hledger => ?_, fun hopen hledger => ?_⟩
    · exact State.next_take_of_refuse h fun l => by rw [howner, if_pos hopen]
    · exact State.next_take_of_refuse h fun l => by rw [howner, if_neg hopen, if_pos hledger]
    · exact State.next_take_of_moveAccount h fun l => by rw [howner, if_neg hopen, if_neg (not_not.2 hledger)]
  case vacateAccount =>
    have howner := vacateAccountOwner_withLink hb h0 s
    refine ⟨fun hopen => ?_, fun hopen => ?_⟩
    · exact State.next_take_of_refuse h fun l => by rw [howner, if_neg hopen]
    · exact State.next_take_of_moveAccount h fun l => by rw [howner, if_pos hopen]
  case freeAccount =>
    have howner := freeAccountOwner_withLink hb h0 s
    have hno (hfree : ∀ z : ZoneNo, s.zones[z].hasMember a = false) : ¬∃ z : ZoneNo, s.zones[z].hasMember a = true :=
      fun ⟨z, hz⟩ => Bool.false_ne_true ((hfree z).symm.trans hz)
    refine ⟨fun hvacant => ?_, fun hvacant hmember => ?_, fun hvacant hfree hledger => ?_, fun hvacant hfree hledger => ?_⟩
    · exact State.next_take_of_refuse h fun l => by rw [howner, if_pos hvacant]
    · exact State.next_take_of_refuse h fun l => by rw [howner, if_neg (not_not.2 hvacant), if_pos hmember]
    · exact State.next_take_of_refuse h fun l => by rw [howner, if_neg (not_not.2 hvacant), if_neg (hno hfree), if_pos hledger]
    · exact State.next_take_of_moveAccount h fun l => by
        rw [howner, if_neg (not_not.2 hvacant), if_neg (hno hfree), if_neg (not_not.2 hledger)]
  all_goals exact State.next_take_of_refuse h fun _ => withAccount_bad hbad ..

end Sys2Proof.Machine

/-! SUPPORT and PROOFS. The apportion operation (R28, R29): the order of preference among the recipients, the place it gives each of them, the
leftover of the base shares, and the statement about the shares. -/

namespace Sys2Proof.Machine

/-! ### Lists by position -/

/-- The sum over the positions of a list, as a sum over a finite set. -/
theorem sum_map_range (f : Nat → Nat) (n : Nat) : ((List.range n).map f).sum = ∑ i ∈ Finset.range n, f i := rfl

theorem sum_eq_sum_getD (l : List Nat) : l.sum = ∑ i ∈ Finset.range l.length, l.getD i 0 := by
  rw [← sum_map_range]
  congr 1
  exact List.ext_getElem (by simp) fun i h _ => by simp [h]

/-! ### The order of preference (R28, step 4) -/

/-- Recipient `j` is preferred to recipient `i`: its remainder is larger, or equal and `j` stands earlier. -/
abbrev Preferred (rems : List Nat) (j i : Nat) : Prop :=
  rems.getD i 0 < rems.getD j 0 ∨ (rems.getD j 0 = rems.getD i 0 ∧ j < i)

theorem Preferred.trans {rems : List Nat} {i j k : Nat} (hij : Preferred rems i j) (hjk : Preferred rems j k) : Preferred rems i k := by
  unfold Preferred at *; omega

theorem not_preferred_self (rems : List Nat) (i : Nat) : ¬Preferred rems i i := by
  unfold Preferred; omega

/-- Of two recipients one is preferred. -/
theorem preferred_or_preferred (rems : List Nat) {i j : Nat} (h : i ≠ j) : Preferred rems i j ∨ Preferred rems j i := by
  unfold Preferred; omega

/-- The recipients preferred to recipient `i`. -/
def preferredSet (rems : List Nat) (i : Nat) : Finset Nat := {j ∈ Finset.range rems.length | Preferred rems j i}

theorem mem_preferredSet {rems : List Nat} {i j : Nat} : j ∈ preferredSet rems i ↔ j < rems.length ∧ Preferred rems j i := by
  simp only [preferredSet, Finset.mem_filter, Finset.mem_range]

theorem preferredTo_eq_card (rems : List Nat) (i : Nat) : preferredTo rems i = (preferredSet rems i).card := by
  show List.length _ = List.length _
  congr 2
  funext j
  simp [Preferred, beq_eq_decide]

/-- A recipient has fewer before it than one it is preferred to: those and itself come before the other. -/
theorem preferredTo_lt_of_preferred {rems : List Nat} {i j : Nat} (hi : i < rems.length) (h : Preferred rems i j) :
    preferredTo rems i < preferredTo rems j := by
  rw [preferredTo_eq_card, preferredTo_eq_card]
  refine Finset.card_lt_card (Finset.ssubset_iff_of_subset (fun k hk => ?_) |>.2 ⟨i, ?_, ?_⟩)
  · obtain ⟨hlt, hk⟩ := mem_preferredSet.1 hk
    exact mem_preferredSet.2 ⟨hlt, hk.trans h⟩
  · exact mem_preferredSet.2 ⟨hi, h⟩
  · exact fun hmem => not_preferred_self rems i (mem_preferredSet.1 hmem).2

theorem preferredTo_lt_length {rems : List Nat} {i : Nat} (hi : i < rems.length) : preferredTo rems i < rems.length := by
  have hsub : preferredSet rems i ⊆ (Finset.range rems.length).erase i := fun j hj => by
    obtain ⟨hlt, hj⟩ := mem_preferredSet.1 hj
    exact Finset.mem_erase.2 ⟨fun e => not_preferred_self rems i (e ▸ hj), Finset.mem_range.2 hlt⟩
  calc preferredTo rems i = (preferredSet rems i).card := preferredTo_eq_card ..
    _ ≤ ((Finset.range rems.length).erase i).card := Finset.card_le_card hsub
    _ < (Finset.range rems.length).card := Finset.card_erase_lt_of_mem (Finset.mem_range.2 hi)
    _ = rems.length := Finset.card_range _

/-- No two recipients have the same number before them. -/
theorem preferredTo_injOn (rems : List Nat) : Set.InjOn (preferredTo rems) (Finset.range rems.length) := by
  intro i hi j hj heq
  by_contra hne
  rcases preferred_or_preferred rems hne with h | h
  · exact (preferredTo_lt_of_preferred (Finset.mem_range.1 hi) h).ne heq
  · exact (preferredTo_lt_of_preferred (Finset.mem_range.1 hj) h).ne' heq

/-- Every place from 0 on is taken by one recipient. -/
theorem image_preferredTo (rems : List Nat) : (Finset.range rems.length).image (preferredTo rems) = Finset.range rems.length := by
  refine Finset.eq_of_subset_of_card_le (Finset.image_subset_iff.2 fun i hi => ?_) ?_
  · exact Finset.mem_range.2 (preferredTo_lt_length (Finset.mem_range.1 hi))
  · exact (Finset.card_image_of_injOn (preferredTo_injOn rems)).ge

/-- As many recipients are chosen as there are units to give, while these are no more than the recipients. -/
theorem card_preferredTo_lt {rems : List Nat} {n : Nat} (h : n ≤ rems.length) :
    ({i ∈ Finset.range rems.length | preferredTo rems i < n} : Finset Nat).card = n := by
  have himage : ({i ∈ Finset.range rems.length | preferredTo rems i < n} : Finset Nat).image (preferredTo rems) = Finset.range n := by
    rw [← Finset.filter_image (p := (· < n)), image_preferredTo]
    ext k
    simp only [Finset.mem_filter, Finset.mem_range]
    omega
  rw [← Finset.card_image_of_injOn ((preferredTo_injOn rems).mono (Finset.filter_subset ..)), himage, Finset.card_range]

/-- The zero-weight argument of R29: remainders below `S` that add up to `n * S` are above 0 for at least `n` recipients, all of them preferred to
one whose remainder is 0. -/
theorem le_preferredTo_of_getD_eq_zero {rems : List Nat} {n S i : Nat} (hS : 0 < S) (hsum : rems.sum = n * S)
    (hlt : ∀ j, rems.getD j 0 < S) (hi : rems.getD i 0 = 0) : n ≤ preferredTo rems i := by
  have hrest : ∀ j ∈ Finset.range rems.length, j ∉ preferredSet rems i → rems.getD j 0 = 0 := fun j hj hnot => by
    by_contra hpos
    exact hnot (mem_preferredSet.2 ⟨Finset.mem_range.1 hj, .inl (by omega)⟩)
  refine Nat.le_of_mul_le_mul_right ?_ hS
  calc n * S = ∑ j ∈ Finset.range rems.length, rems.getD j 0 := by rw [← hsum, sum_eq_sum_getD]
    _ = ∑ j ∈ preferredSet rems i, rems.getD j 0 := (Finset.sum_subset (Finset.filter_subset ..) hrest).symm
    _ ≤ (preferredSet rems i).card * S := Finset.sum_le_card_nsmul _ _ _ fun j _ => (hlt j).le
    _ = preferredTo rems i * S := by rw [preferredTo_eq_card]

/-! ### Base shares, remainders and leftover (R28, steps 1 to 3) -/

/-- The floor of each recipient's part. -/
def baseShares (pool : Nat) (ws : List Nat) : List Nat := ws.map (pool * · / ws.sum)

/-- What each division leaves over. -/
def remainders (pool : Nat) (ws : List Nat) : List Nat := ws.map (pool * · % ws.sum)

/-- The units of the pool that the base shares do not give out. -/
def leftover (pool : Nat) (ws : List Nat) : Nat := pool - (baseShares pool ws).sum

/-- The shares are the base shares, with one unit more for each recipient that fewer than the leftover are preferred to. -/
theorem apportion_eq (pool : Nat) (ws : List Nat) : apportion pool ws = (List.range ws.length).map fun i =>
    (baseShares pool ws).getD i 0 + if preferredTo (remainders pool ws) i < leftover pool ws then 1 else 0 := by
  have hrem : (ws.map fun w => pool * w - pool * w / ws.sum * ws.sum) = remainders pool ws :=
    List.map_congr_left fun w _ => Nat.mod_eq_sub_div_mul.symm
  rw [← hrem]
  rfl

@[simp] theorem length_baseShares (pool : Nat) (ws : List Nat) : (baseShares pool ws).length = ws.length := List.length_map _
@[simp] theorem length_remainders (pool : Nat) (ws : List Nat) : (remainders pool ws).length = ws.length := List.length_map _

section
variable {pool i w : Nat} {ws : List Nat}

theorem getD_baseShares (h : ws[i]? = some w) : (baseShares pool ws).getD i 0 = pool * w / ws.sum := by
  simp [baseShares, h]

theorem getD_remainders (h : ws[i]? = some w) : (remainders pool ws).getD i 0 = pool * w % ws.sum := by
  simp [remainders, h]

theorem getD_remainders_lt (h : 0 < ws.sum) (j : Nat) : (remainders pool ws).getD j 0 < ws.sum := by
  rcases hj : ws[j]? with _ | v
  · simpa [remainders, hj] using h
  · simpa [remainders, hj] using Nat.mod_lt _ h

theorem getElem?_apportion (h : ws[i]? = some w) : (apportion pool ws)[i]? =
    some (pool * w / ws.sum + if preferredTo (remainders pool ws) i < leftover pool ws then 1 else 0) := by
  obtain ⟨hi, -⟩ := List.getElem?_eq_some_iff.1 h
  simp only [apportion_eq, List.getElem?_map, List.getElem?_range hi, Option.map_some, getD_baseShares h]

end

/-- Quotients and remainders of the weighted pools make up the pools. -/
theorem sum_map_div_mul_add_sum_map_mod (pool S : Nat) (ws : List Nat) :
    (ws.map (pool * · / S)).sum * S + (ws.map (pool * · % S)).sum = pool * ws.sum := by
  induction ws with
  | nil => simp
  | cons w ws ih =>
    simp only [List.map_cons, List.sum_cons, Nat.add_mul, Nat.mul_add, ← ih]
    have := Nat.div_add_mod' (pool * w) S
    omega

/-- The remainders add up to the leftover times the sum of the weights (R29). -/
theorem sum_remainders (pool : Nat) (ws : List Nat) : (remainders pool ws).sum = leftover pool ws * ws.sum := by
  rw [leftover, Nat.sub_mul]
  exact Nat.eq_sub_of_add_eq' (sum_map_div_mul_add_sum_map_mod pool ws.sum ws)

section
variable (pool : Nat) {ws : List Nat}

theorem sum_baseShares_le (h : 0 < ws.sum) : (baseShares pool ws).sum ≤ pool :=
  Nat.le_of_mul_le_mul_right (Nat.le.intro (sum_map_div_mul_add_sum_map_mod pool ws.sum ws)) h

/-- The leftover bound of R29. -/
theorem leftover_lt_length (h : 0 < ws.sum) : leftover pool ws < ws.length := by
  have hne : (Finset.range ws.length).Nonempty := Finset.nonempty_range_iff.2 fun hnil => by
    simp [List.length_eq_zero_iff.1 hnil] at h
  refine Nat.lt_of_mul_lt_mul_right (a := ws.sum) ?_
  calc leftover pool ws * ws.sum = ∑ j ∈ Finset.range ws.length, (remainders pool ws).getD j 0 := by
        rw [← sum_remainders, sum_eq_sum_getD, length_remainders]
    _ < ∑ j ∈ Finset.range ws.length, ws.sum := Finset.sum_lt_sum_of_nonempty hne fun j _ => getD_remainders_lt h j
    _ = ws.length * ws.sum := by simp

/-! ### The shares (R28, R29) -/

/-- The shares add up to the pool: the leftover is what the chosen recipients receive beyond their base shares. -/
theorem sum_apportion (h : 0 < ws.sum) : (apportion pool ws).sum = pool := by
  have hchosen := card_preferredTo_lt (rems := remainders pool ws) ((length_remainders pool ws).symm ▸ (leftover_lt_length pool h).le)
  rw [length_remainders, Finset.card_filter] at hchosen
  have hbase := sum_eq_sum_getD (baseShares pool ws)
  rw [length_baseShares] at hbase
  rw [apportion_eq, sum_map_range, Finset.sum_add_distrib, hchosen, ← hbase]
  exact Nat.add_sub_cancel' (sum_baseShares_le pool h)

/-- A recipient of weight 0 is not chosen. -/
theorem leftover_le_preferredTo_of_weight_zero (h : 0 < ws.sum) {i : Nat} (hi : ws[i]? = some 0) :
    leftover pool ws ≤ preferredTo (remainders pool ws) i :=
  le_preferredTo_of_getD_eq_zero h (sum_remainders pool ws) (getD_remainders_lt h) (by rw [getD_remainders hi]; simp)

end

/-- Settles O49. A share is the base share with a unit more exactly for the recipients that fewer than the leftover are preferred to; whoever is
preferred to a chosen recipient has fewer before it, so it is chosen too. -/
theorem apportionExact : Obligations.ApportionExact := by
  unfold Obligations.ApportionExact
  intro pool ws hS
  refine ⟨length_apportion pool ws, sum_apportion pool hS, fun i w x hw hx => ⟨?floor, ?zero⟩, fun i j u v y hu hv hy hmore hpref => ?largest⟩
  case floor =>
    obtain rfl := Option.some.inj ((getElem?_apportion hw).symm.trans hx)
    split
    · exact .inr rfl
    · exact .inl rfl
  case zero =>
    rintro rfl
    obtain rfl := Option.some.inj ((getElem?_apportion hw).symm.trans hx)
    simp [leftover_le_preferredTo_of_weight_zero pool hS hw]
  case largest =>
    have hchosen : preferredTo (remainders pool ws) j < leftover pool ws := by
      by_contra hnot
      rw [getElem?_apportion hv, if_neg hnot, Option.some.injEq] at hy
      omega
    have hbefore : Preferred (remainders pool ws) i j := by
      rw [Preferred, getD_remainders hu, getD_remainders hv]
      exact hpref.imp_right fun ⟨heq, hlt⟩ => ⟨heq.symm, hlt⟩
    obtain ⟨hi, -⟩ := List.getElem?_eq_some_iff.1 hu
    have hfewer := preferredTo_lt_of_preferred ((length_remainders pool ws).symm ▸ hi) hbefore
    rw [getElem?_apportion hu, if_pos (hfewer.trans hchosen)]

end Sys2Proof.Machine

/-! SUPPORT and PROOFS. READ SETTLEMENT, PEEK STATEMENT and COLLECT STATEMENT (R42, R53 to R57): what their operands select, when a settlement is
pending, what a collect leaves behind, and the statement about the three requests. -/

namespace Sys2Proof.Machine

/-! ### The operands (R2, R8, R56) -/

theorem index_eq_some {n v : Nat} {i : Fin n} (h : v = i.val) : index n v = some i := by
  subst h
  exact dif_pos i.isLt

theorem accountOf_eq_some {b : Byte} {a : AccountNo} (h : b.toNat = a.val) : accountOf b = some a := index_eq_some h

theorem zoneOf_eq_some {b : Byte} {z : ZoneNo} (h : b.toNat = z.val) : zoneOf b = some z := index_eq_some h

theorem zoneOf_eq_none {b : Byte} (h : 15 < b.toNat) : zoneOf b = none := dif_neg (Nat.not_lt.2 h)

theorem withZone_bad {b : Byte} (h : 15 < b.toNat) (s : State) (k : ZoneNo → Answer) : withZone b s k = refuse .badIndex s := by
  simp only [withZone, zoneOf_eq_none h]

theorem withZone_good {b : Byte} {z : ZoneNo} (h : b.toNat = z.val) (s : State) (k : ZoneNo → Answer) : withZone b s k = k z := by
  simp only [withZone, zoneOf_eq_some h]

theorem statementKindOf_eq_none {b : Byte} (h : 1 < b.toNat) : statementKindOf b = none := by
  unfold statementKindOf
  split
  · omega
  · omega
  · rfl

theorem statementKindOf_zero : statementKindOf 0#8 = some .current := rfl

theorem statementKindOf_one : statementKindOf 1#8 = some .lastCollected := rfl

/-! ### A pending settlement (R55) -/

theorem ZoneState.closed_iff (st : ZoneState) : st.closed = true ↔ st = .queued ∨ st = .settling := by
  cases st <;> simp [ZoneState.closed]

theorem Zone.hasMember_iff (z : Zone) (a : AccountNo) : z.hasMember a = true ↔ ∃ m ∈ z.members, m.account = a := by
  simp [Zone.hasMember]

@[simp] theorem State.withLink_settlementPending (s : State) (l : Link) (a : AccountNo) :
    (s.withLink l).settlementPending a = s.settlementPending a := rfl

theorem State.settlementPending_iff (s : State) (a : AccountNo) : s.settlementPending a = true ↔
    ∃ z : ZoneNo, (s.zones[z].state = .queued ∨ s.zones[z].state = .settling) ∧ (a = 0 ∨ ∃ m ∈ s.zones[z].members, m.account = a) := by
  simp only [State.settlementPending, List.any_eq_true, mem_allZones, true_and, Bool.and_eq_true, Bool.or_eq_true, beq_iff_eq,
    ZoneState.closed_iff, Zone.hasMember_iff]

theorem State.not_settlementPending {s : State} {a : AccountNo}
    (h : ∀ z : ZoneNo, s.zones[z].state = .queued ∨ s.zones[z].state = .settling → a ≠ 0 ∧ ∀ m ∈ s.zones[z].members, m.account ≠ a) :
    ¬s.settlementPending a = true := by
  rw [State.settlementPending_iff]
  rintro ⟨z, hclosed, rfl | ⟨m, hm, hacc⟩⟩
  · exact (h z hclosed).1 rfl
  · exact (h z hclosed).2 m hm hacc

/-! ### The queue position of READ SETTLEMENT (R42) -/

/-- The position of a QUEUED zone is the number of zones ahead of it. -/
theorem State.settlementReply_position {s : State} {z : ZoneNo} {l rest : List ZoneNo} (hstate : s.zones[z].state = .queued)
    (hqueue : s.queue = l ++ z :: rest) (hahead : z ∉ l) : (s.settlementReply z).position = some l.length := by
  have hidx : s.queue.idxOf z = l.length := by rw [hqueue, List.idxOf_append_of_notMem hahead, List.idxOf_cons_self, Nat.add_zero]
  simp only [State.settlementReply, if_pos hstate, hidx]

/-! ### The owners of the statement requests (R56, R57) -/

/-- What a collect leaves behind: the account's ledger emptied and numbered anew with the statement as its copy, and for the house account no
itemisation (R57, steps 1, 3 and 4). -/
def State.afterCollect (a : AccountNo) (st : Statement) (s : State) : State :=
  (s.withLedgers (s.ledgers.set a (s.ledgers[a].collect st))).withHouse (if a = 0 then .zero else s.house)

section Owners
variable {ab : Byte}

theorem peekStatementOwner_badIndex (h : 127 < ab.toNat) (kb : Byte) (s : State) : peekStatementOwner ab kb s = refuse .badIndex s := by
  simp only [peekStatementOwner, accountOf_eq_none h]

theorem collectStatementOwner_badIndex (h : 127 < ab.toNat) (s : State) : collectStatementOwner ab s = refuse .badIndex s := by
  simp only [collectStatementOwner, accountOf_eq_none h]

variable {a : AccountNo} (ha : accountOf ab = some a)
include ha

theorem peekStatementOwner_badValue {kb : Byte} (h : 1 < kb.toNat) (s : State) : peekStatementOwner ab kb s = refuse .badValue s := by
  simp only [peekStatementOwner, ha, statementKindOf_eq_none h]

theorem peekStatementOwner_current (s : State) :
    peekStatementOwner ab 0#8 s = accept (.statement (s.currentStatement a)) s := by
  simp only [peekStatementOwner, ha, statementKindOf_zero]

theorem peekStatementOwner_lastCollected (s : State) :
    peekStatementOwner ab 1#8 s = accept (.statement s.ledgers[a].last) s := by
  simp only [peekStatementOwner, ha, statementKindOf_one]

theorem collectStatementOwner_notReady {s : State} (h : s.settlementPending a = true) :
    collectStatementOwner ab s = refuse .notReady s := by
  simp only [collectStatementOwner, ha, if_pos h]

theorem collectStatementOwner_ready {s : State} (h : ¬s.settlementPending a = true) :
    collectStatementOwner ab s = accept (.statement (s.collected a)) (s.afterCollect a (s.collected a)) := by
  simp only [collectStatementOwner, ha, if_neg h, State.afterCollect]
  split <;> rfl

end Owners

/-! ### The two accepting ends -/

section Ends
variable {s : State} {i : Instr} {type : Byte} {owner : State → Answer}

/-- A taken request that its owner only answers changes nothing but LINK. -/
theorem State.next_take_of_accept {c : Content} (h : s.canTake i = true) (ho : ∀ l : Link, owner (s.withLink l) = accept c (s.withLink l)) :
    Host.Outcome.next (s.take i type owner) = (.next (s.answered type .ok c) : Host.Outcome State Fault Refusal) :=
  congrArg _ (State.take_same h ho)

/-- A taken request whose owner collects changes the account's ledger and the itemisation alone, and LINK answers with the statement. -/
theorem State.next_take_of_collect {a : AccountNo} {st : Statement} (h : s.canTake i = true)
    (ho : ∀ l : Link, owner (s.withLink l) = accept (.statement st) ((s.withLink l).afterCollect a st)) :
    Host.Outcome.next (s.take i type owner) =
      (.next ((s.answered type .ok (.statement st)).afterCollect a st) : Host.Outcome State Fault Refusal) :=
  congrArg _ (State.take_accept (f := State.afterCollect a st) h ho (fun _ _ => rfl) (fun _ => rfl))

end Ends

/-! ### The statement -/

/-- Settles O52. Each clause follows one path through the owner's checks; the pending condition of R55 is what the owner of COLLECT STATEMENT
asks and what a CURRENT statement shows. -/
theorem statementRequests : Obligations.StatementRequests := by
  unfold Obligations.StatementRequests
  refine ⟨fun zb s h => ⟨fun hbad => ?_, fun z hz => ?readSettlement⟩,
    fun ab kb s h => ⟨fun hbad => ?_, fun a hab => ?peek⟩, fun ab s h => ⟨fun hbad => ?_, fun a hab => ?collect⟩⟩
  · exact State.next_take_of_refuse h fun _ => withZone_bad hbad ..
  case readSettlement =>
    exact ⟨s.settlementReply z, State.next_take_of_accept h fun _ => withZone_good hz .., rfl, rfl, rfl, rfl,
      fun l rest => State.settlementReply_position, fun hstate => if_neg hstate, fun hstate => if_pos hstate, fun hstate => if_neg hstate⟩
  · exact State.next_take_of_refuse h fun _ => peekStatementOwner_badIndex hbad ..
  case peek =>
    have ha := accountOf_eq_some hab
    refine ⟨fun hkind => ?_, ?_, ?_⟩
    · exact State.next_take_of_refuse h fun _ => peekStatementOwner_badValue ha hkind _
    · rintro rfl
      exact State.next_take_of_accept h fun _ => peekStatementOwner_lastCollected ha _
    · rintro rfl
      exact ⟨s.settlementPending a, State.next_take_of_accept h fun _ => peekStatementOwner_current ha _, s.settlementPending_iff a⟩
  · exact State.next_take_of_refuse h fun _ => collectStatementOwner_badIndex hbad _
  case collect =>
    have ha := accountOf_eq_some hab
    refine ⟨fun hpending => ?_, fun hready x hx => ?_⟩
    · exact State.next_take_of_refuse h fun _ => collectStatementOwner_notReady ha ((s.settlementPending_iff a).2 hpending)
    · obtain rfl : x = s.collected a := hx
      exact State.next_take_of_collect h fun _ => collectStatementOwner_ready ha (State.not_settlementPending hready)

end Sys2Proof.Machine

/-! SUPPORT and PROOFS. The EIN takes a pulse (R74 to R76, R80): what the pulse counts and adds as a least value, what each channel state and
the held temperatures make of it, OVERSPEED, and the statement about the taken pulse. -/

namespace Sys2Proof.Machine

namespace Channel

/-! ### The totals and counters of a pulse, each the least of the sum and its limit (R74, R75, R80) -/

variable (ch : Channel)

theorem countPulse_eq (overspeed : Bool) : ch.countPulse overspeed = { ch with
    volume := min (ch.volume + ch.pulseValue) (2 ^ 48 - 1)
    counters := { ch.counters with
      pulses := min (ch.counters.pulses + 1) (2 ^ 32 - 1)
      overspeed := if overspeed then min (ch.counters.overspeed + 1) (2 ^ 32 - 1) else ch.counters.overspeed } } := by
  simp only [countPulse, satAdd_eq_min, inc32_eq_min]

theorem addPaused_eq : ch.addPaused = { ch with pausedVolume := min (ch.pausedVolume + ch.pulseValue) (2 ^ 48 - 1) } := by
  simp only [addPaused, satAdd_eq_min]

theorem countBefore_eq : ch.countBefore = { ch with counters := { ch.counters with
    beforeTemp := min (ch.counters.beforeTemp + 1) (2 ^ 32 - 1) } } := by
  simp only [countBefore, inc32_eq_min]

theorem countClamp_eq : ch.countClamp = { ch with counters := { ch.counters with
    reverse := if ch.rawDT < 0 then min (ch.counters.reverse + 1) (2 ^ 32 - 1) else ch.counters.reverse
    low := if 0 ≤ ch.rawDT ∧ ch.rawDT < ch.minDT then min (ch.counters.low + 1) (2 ^ 32 - 1) else ch.counters.low } } := by
  simp only [countClamp, inc32_eq_min]

/-- A mode that is not HEATING is COOLING, where the difference is taken the other way round (R75). -/
theorem rawDT_eq : ch.rawDT = if ch.mode = .heating then ch.flow.value - ch.ret.value else ch.ret.value - ch.flow.value := by
  unfold rawDT
  cases ch.mode <;> rfl

/-! ### What the pulse's own counts leave for the handling to read (R74, R75) -/

@[simp] theorem countPulse_flow (overspeed : Bool) : (ch.countPulse overspeed).flow = ch.flow := rfl
@[simp] theorem countPulse_ret (overspeed : Bool) : (ch.countPulse overspeed).ret = ch.ret := rfl
@[simp] theorem countPulse_measuredDT (overspeed : Bool) : (ch.countPulse overspeed).measuredDT = ch.measuredDT := rfl

section
variable {ch}

/-! ### Energy is measured only from two held temperatures (R74) -/

section
variable (b : BandNo) (est : Bool)

theorem measure_of_set (hf : ch.flow.set = true) (hr : ch.ret.set = true) :
    ch.measure b est = ch.countClamp.integrate b est ch.measuredDT :=
  if_pos (Bool.and_eq_true_iff.2 ⟨hf, hr⟩)

theorem measure_of_unset (h : ch.flow.set = false ∨ ch.ret.set = false) : ch.measure b est = ch.countBefore :=
  if_neg (Bool.eq_false_iff.1 (Bool.and_eq_false_iff.2 h))

end

/-! ### What each channel state makes of a pulse (R74) -/

variable (b : BandNo) (backup : Bool) (p : Pulse)

theorem takePulse_of_disabled (h : ch.state = .disabled) : ch.takePulse b backup p = ch := by
  simp only [takePulse, h]

theorem takePulse_of_paused (h : ch.state = .paused) : ch.takePulse b backup p = (ch.countPulse p.overspeed).addPaused := by
  simp only [takePulse, h]

theorem takePulse_of_substitute (h : ch.state = .substitute) :
    ch.takePulse b backup p = (ch.countPulse p.overspeed).integrate b true ch.fallbackDT := by
  simp only [takePulse, h]

theorem takePulse_of_measuring (h : ch.state = .running ∨ ch.state = .hold) :
    ch.takePulse b backup p = (ch.countPulse p.overspeed).measure b backup := by
  rcases h with h | h
  · simp only [takePulse, h]
  · simp only [takePulse, h]

theorem ne_disabled_of_measuring (h : ch.state = .running ∨ ch.state = .hold) : ch.state ≠ .disabled :=
  h.elim (·.trans_ne (by decide)) (·.trans_ne (by decide))

end

end Channel

/-! ### The part's side of a pulse: the channel's entry and OVERSPEED (R74) -/

section
variable {s : State} {c : ChannelNo} (p : Pulse)

theorem State.takePulse_of_disabled (h : s.channels[c].state = .disabled) : s.takePulse c p = s := by
  have hsame : upd s.channels c (Channel.takePulse s.band (s.ssv.supply == .backup) p) = s.channels := by
    rw [upd, Channel.takePulse_of_disabled _ _ _ h]
    exact Vector.set_getElem_self c.isLt
  rw [State.takePulse, if_neg fun hflag => hflag.2 h, State.updChannel, hsame, State.withChannels_self]

/-- A pulse that is not dropped changes its channel's entry, and its mark is added to the OVERSPEED flag. -/
theorem State.takePulse_of_taken (h : s.channels[c].state ≠ .disabled) : s.takePulse c p =
    (s.withChannels (s.channels.set c (s.channels[c].takePulse s.band (decide (s.ssv.supply = .backup)) p))).withLink
      { s.link with flags := { s.link.flags with overspeed := s.link.flags.overspeed || p.overspeed } } := by
  rw [State.takePulse]
  cases p.overspeed with
  | false =>
    rw [if_neg fun hflag => Bool.false_ne_true hflag.1, Bool.or_false]
    rfl
  | true =>
    rw [if_pos ⟨rfl, h⟩, Bool.or_true]
    rfl

end

/-! ### The statement -/

/-- Settles O32. The channel's state chooses the handling; the pulse's own counts leave the state, the held temperatures and the
configuration that the handling then reads. -/
theorem pulseTaken : Obligations.PulseTaken := by
  unfold Obligations.PulseTaken
  rintro s c p ch m fl rfl rfl hm
  rw [← Channel.countPulse_eq] at hm
  subst hm
  refine ⟨State.takePulse_of_disabled p, fun hpaused => ?paused, fun hmeasuring hunset => ?before, fun hsubstitute => ?substitute,
    fun d hmeasuring hf hr hd => ?measured⟩
  case paused =>
    rw [State.takePulse_of_taken p (hpaused.trans_ne (by decide)), Channel.takePulse_of_paused _ _ _ hpaused, Channel.addPaused_eq]
    rfl
  case before =>
    rw [State.takePulse_of_taken p (Channel.ne_disabled_of_measuring hmeasuring), Channel.takePulse_of_measuring _ _ _ hmeasuring,
      Channel.measure_of_unset _ _ (by simpa using hunset), Channel.countBefore_eq]
    rfl
  case substitute =>
    rw [State.takePulse_of_taken p (hsubstitute.trans_ne (by decide)), Channel.takePulse_of_substitute _ _ _ hsubstitute]
  case measured =>
    rw [← Channel.rawDT_eq] at hd
    subst hd
    rw [State.takePulse_of_taken p (Channel.ne_disabled_of_measuring hmeasuring), Channel.takePulse_of_measuring _ _ _ hmeasuring,
      Channel.measure_of_set _ _ (by simpa using hf) (by simpa using hr), Channel.countPulse_measuredDT, Channel.countClamp_eq]
    rfl

end Sys2Proof.Machine

/-! SUPPORT. What a step can do to the part, said once: the changes that the commands are made of, each with what the model's checks guarantee of it,
and for every command that the changes it makes are of these kinds. The invariants of the part are proved over the changes. -/

namespace Sys2Proof.Machine

/-! ### The changes -/

/-- A member list as R11 has it: at most 32 members in strictly ascending account order, none of them account 0 or FREE, each with an area. -/
def membersSound (accounts : Vector AccountState 128) (ms : List Member) : Prop :=
  ms.Pairwise (fun a b => a.account < b.account) ∧ ms.length ≤ 32 ∧
    ∀ m ∈ ms, m.account ≠ 0 ∧ accounts[m.account] ≠ .free ∧ 1 ≤ m.area

/-- What a request or an act may make of a zone record outside its arming, a close, a settlement and its end. -/
structure ZoneChange (accounts : Vector AccountState 128) (old new : Zone) : Prop where
  state   : new.state = old.state ∨ (old.state.closed = false ∧ new.state.closed = false)
  armed   : new.state = .armed → old.state = .armed
  closing : new.closing = old.closing ∨ new.closing = .zero
  weights : ∀ m ∈ new.members, m.closingW = .zero ∨ ∃ x ∈ old.members, x.closingW = m.closingW
  members : membersSound accounts old.members → membersSound accounts new.members

/-- What a request, a pulse or a result pair may make of a channel and its input. -/
structure ChannelChange (c : Channel) (i : Input) (d : Channel) (j : Input) : Prop where
  closing  : d.closing = .zero ∨ (d.closing = c.closing ∧ d.zone = c.zone)
  carry    : c.carry < 100000000 → d.carry < 100000000
  runs     : (i.running = true ↔ c.state ≠ .disabled) → (j.running = true ↔ d.state ≠ .disabled)
  mirror   : (c.state.integrating = true → c.state = c.status.channelState) → d.state.integrating = true → d.state = d.status.channelState
  handover : (i.handover ≠ none → i.running = true) → j.handover ≠ none → j.running = true

/-- A node entry as R162 has it: a quarantine tally only while it is HALTED. -/
def NodeEntry.sound (e : NodeEntry) : Prop := e.state ≠ .halted → e.tally = 0 ∧ e.tallySaturated = false

/-- A Node Table without two entries of one serial, and in order (R148). -/
def nodesOrdered (l : List NodeEntry) : Prop := (l.map (·.serial)).Pairwise (· < ·)

/-- The bus master's work is the same: its state, what is in hand, the sweep, and no cycle where there was none. -/
structure Abm.SameWork (a b : Abm) : Prop where
  bus      : b.bus = a.bus
  activity : b.activity = a.activity
  sweep    : b.sweep = a.sweep
  cycle    : a.cycle = none → b.cycle = none

/-- How far a change reaches: beside the bus master's work, to that work, or to the supervisor. -/
inductive Reach where
  | beside
  | bus
  | supply

/-- A change that reaches so far is one of those that reach as far as that. -/
def Reach.within : Reach → Reach → Prop
  | .beside, _ => True
  | .bus, .beside => False
  | .bus, _ => True
  | .supply, .supply => True
  | .supply, _ => False

/-- One change that a step makes. -/
inductive Change (s : State) : Reach → State → Prop where
  | link (l : Link) : Change s .beside (s.withLink l)
  | values (a : Abm) (h : s.abm.SameWork a) : Change s .beside (s.withAbm a)
  | abm (a : Abm) : Change s .bus (s.withAbm a)
  | tcv (v : Tcv) : Change s .beside (s.withTcv v)
  | ssv (v : Ssv) (h : s.SupplySound → (s.withSsv v).SupplySound) : Change s .supply (s.withSsv v)
  | prices (v : ByMode (Bands Nat)) : Change s .beside (s.withPrices v)
  | band (v : BandNo) : Change s .beside (s.withBand v)
  | house (v : House) : Change s .beside (s.withHouse v)
  | records (v : Vector SettlementRecord 16) : Change s .beside (s.withRecords v)
  | freeUses (v : Nat) : Change s .beside (s.withFreeUses v)
  | ledgers (v : Vector Ledger 128) (h : s.accounts[(0 : AccountNo)] = .opened → ∀ a : AccountNo, s.accounts[a] = .free →
      v[a].unbilled = s.ledgers[a].unbilled ∨ v[a].unbilled = .zero) : Change s .beside (s.withLedgers v)
  | account (a : AccountNo) (st : AccountState) (h0 : a ≠ 0)
      (h : st = .free → s.ledgers[a].unbilled = .zero ∧ ∀ z : ZoneNo, s.zones[z].hasMember a = false) :
      Change s .beside (s.withAccounts (s.accounts.set a st))
  | point (i : PointNo) (p : Point) (h : p.valid = true → s.pointConflict i p = false) : Change s .beside (s.withPoints (s.points.set i p))
  | channels (v : Vector Channel 8) (w : Vector Input 8)
      (h : ∀ c : ChannelNo, ChannelChange s.channels[c] s.inputs[c] v[c] w[c]) : Change s .beside ((s.withChannels v).withInputs w)
  | zone (z : ZoneNo) (r : Zone) (h : ZoneChange s.accounts s.zones[z] r) : Change s .beside (s.withZones (s.zones.set z r))
  | arm (z : ZoneNo) (terms : CloseTerms) (h : s.zones[z].state.closed = false) :
      Change s .bus (s.withZones (s.zones.set z { s.zones[z] with state := .armed, armed := terms }))
  | close (z : ZoneNo) (cause : CloseCause) (terms : CloseTerms) (h : s.zones[z].state.closed = false) : Change s .beside (s.closeZone z cause terms)
  | take (h : s.sen.stage = .idle) : Change s .beside s.takeZone
  | stage (st : Stage) (x : Scratch) (h : s.sen.stage ≠ .idle) (h' : st ≠ .idle) : Change s .beside (s.toStage st x)
  | release (z : ZoneNo) (h : s.sen.zone = some z) : Change s .beside (s.releaseZone z)
  | stopSen : Change s .beside s.stopSen
  | atu (u : Atu) (h : ∀ x, u.op = some (.insertion x) → s.atu.op = some (.insertion x) ∨
      (s.nodes.length < 384 ∧ ∀ e ∈ s.nodes, e.serial ≠ x.serial)) (h' : u.handed = s.atu.handed) : Change s .beside (s.withAtu u)
  | hand (a : Option HandedAct) : Change s .bus (s.hand a)
  | nodes (l : List NodeEntry) (h : l.map (·.serial) = s.nodes.map (·.serial))
      (h' : nodesOrdered s.nodes → (∀ e ∈ s.nodes, e.sound) → ∀ e ∈ l, e.sound) : Change s .beside (s.withNodes l)
  | table (op : NodeOp) (h : s.atu.op = some op) : Change s .beside (s.tableChanged op)
  | coldStart (v : Ssv) (h : s.SupplySound → (s.withSsv v).SupplySound) : Change s .supply (s.beginColdStart.withSsv v)

/-- From `s` a number of changes that reach as far as `k` lead to `t`. -/
abbrev State.Reaches (k : Reach) (s t : State) : Prop := Relation.ReflTransGen (fun a b => ∃ j, Reach.within j k ∧ Change a j b) s t

/-- From `s` a number of changes short of the supervisor's lead to `t`. -/
abbrev State.Becomes (s t : State) : Prop := s.Reaches .bus t

theorem Change.becomes {j k : Reach} {s t : State} (h : Change s j t) (hj : j.within k := by trivial) : s.Reaches k t := .single ⟨j, hj, h⟩

/-- The supervisor's acts may make the changes that the others make. -/
theorem State.Becomes.supply {s t : State} (h : s.Becomes t) : s.Reaches .supply t :=
  Relation.ReflTransGen.mono (r := fun a b => ∃ j, Reach.within j .bus ∧ Change a j b) (fun _ _ ⟨j, _, hc⟩ => ⟨j, by cases j <;> trivial, hc⟩) _ _ h

/-! ### The changes of the bus master -/

section
variable {k : Reach} (s : State)

theorem State.withLink_becomes (l : Link) : s.Reaches k (s.withLink l) := (Change.link l).becomes
theorem State.withAbm_becomes (a : Abm) : s.Becomes (s.withAbm a) := (Change.abm a).becomes
theorem State.withTcv_becomes (v : Tcv) : s.Reaches k (s.withTcv v) := (Change.tcv v).becomes
theorem State.flag_becomes (f : EventFlags → EventFlags) : s.Reaches k (s.flag f) := s.withLink_becomes _

/-- A change of the bus master's numbers. -/
theorem State.values_becomes (a : Abm) (h : s.abm.SameWork a) : s.Reaches k (s.withAbm a) := (Change.values a h).becomes

/-- A change of the attribution unit that leaves the Node Table operation and the act handed over. -/
theorem State.withAtu_becomes (u : Atu) (h : u.op = s.atu.op) (h' : u.handed = s.atu.handed) : s.Reaches k (s.withAtu u) :=
  (Change.atu u (fun _ hx => .inl (h ▸ hx)) h').becomes

theorem State.countTotal_becomes (f : BusTotals → BusTotals) : s.Reaches k (s.countTotal f) := s.values_becomes _ ⟨rfl, rfl, rfl, id⟩
theorem State.countBus_becomes (f : BusCounters → BusCounters) : s.Reaches k (s.countBus f) := s.values_becomes _ ⟨rfl, rfl, rfl, id⟩
theorem State.withRotation_becomes (x : Serial) : s.Reaches k (s.withRotation x) := s.values_becomes _ ⟨rfl, rfl, rfl, id⟩

theorem State.updCycle_becomes (f : Cycle → Cycle) : s.Reaches k (s.updCycle f) :=
  s.values_becomes _ ⟨rfl, rfl, rfl, fun h => by simp [h]⟩
theorem State.countAtu_becomes (f : AtuCounters → AtuCounters) : s.Reaches k (s.countAtu f) := s.withAtu_becomes _ rfl rfl
theorem State.hand_becomes (a : Option HandedAct) : s.Becomes (s.hand a) := (Change.hand a).becomes

theorem State.closeIfArmed_becomes (cause : CloseCause) (z : ZoneNo) : s.Reaches k (s.closeIfArmed cause z) := by
  unfold State.closeIfArmed
  split
  · rename_i h
    exact (Change.close z cause _ (by rw [h]; rfl)).becomes
  · exact .refl

theorem State.closeArmed_becomes (cause : CloseCause) : s.Reaches k (s.closeArmed cause) := by
  have key (l : List ZoneNo) (t : State) : t.Reaches k (l.foldl (State.closeIfArmed cause) t) := by
    induction l generalizing t with
    | nil => exact .refl
    | cons z l ih => exact (t.closeIfArmed_becomes cause z).trans (ih _)
  exact key allZones s

theorem State.endSweep_becomes (o : SweepOutcome) : s.Becomes (s.endSweep o) :=
  (s.withAbm_becomes _).trans (State.flag_becomes _ _)

theorem State.splitRange_becomes (r : Range) (u : Bool) : s.Becomes (s.splitRange r u) := by
  unfold State.splitRange
  split
  · split
    · exact s.withAbm_becomes _
    · exact s.endSweep_becomes _
  · split
    · exact s.withAbm_becomes _
    · exact .refl

theorem State.sweepStep_becomes : s.Becomes s.sweepStep := by
  unfold State.sweepStep
  split
  · exact s.endSweep_becomes _
  · split <;> exact s.withAbm_becomes _

theorem State.startEnroll_becomes (r : Range) (x : Serial) : s.Becomes (s.startEnroll r x) := by
  unfold State.startEnroll
  split <;> exact s.withAbm_becomes _

theorem State.endPoll_becomes : s.Becomes s.endPoll := by
  unfold State.endPoll
  split
  · exact (s.withAbm_becomes _).trans (State.sweepStep_becomes _)
  · exact s.withAbm_becomes _

theorem State.deferRest_becomes : s.Reaches k s.deferRest := by
  unfold State.deferRest
  split
  · split
    · split
      · exact s.withRotation_becomes _
      · exact .refl
    · exact .refl
  · exact .refl

theorem State.noteOverrun_becomes : s.Reaches k s.noteOverrun := by
  unfold State.noteOverrun
  split
  · split
    · exact (s.countTotal_becomes _).trans (State.flag_becomes _ _)
    · exact .refl
  · exact .refl

theorem State.automaticSweep_becomes : s.Becomes s.automaticSweep := by
  unfold State.automaticSweep
  split
  · exact .refl
  · dsimp only
    split <;> exact s.withAbm_becomes _

theorem State.beginCycle_becomes : s.Becomes s.beginCycle := by
  have key (t : State) : t.Becomes (((t.withAbm t.abm.newCycle).closeArmed .cycleEnd).countBus .addCycle).automaticSweep :=
    (((t.withAbm_becomes _).trans (State.closeArmed_becomes _ _)).trans (State.withAbm_becomes _ _)).trans (State.automaticSweep_becomes _)
  exact (s.deferRest_becomes.trans (State.noteOverrun_becomes _)).trans (key _)

theorem State.busStop_becomes : s.Becomes s.busStop := by
  have abort (t : State) : t.Becomes (if t.abm.sweep.active then t.endSweep .abortedStop else t) := by
    split
    · exact t.endSweep_becomes _
    · exact .refl
  exact (((s.closeArmed_becomes _).trans (abort _)).trans (State.withAbm_becomes _ _)).trans (State.hand_becomes _ _)

theorem State.proceed_becomes : s.Becomes s.proceed := by
  have step : s.Becomes (match s.abm.cycle with
      | some c => if c.phase = Phase.sweep then s.sweepStep else s
      | none => s) := by
    split
    · split
      · exact s.sweepStep_becomes
      · exact .refl
    · exact .refl
  unfold State.proceed
  dsimp only
  split
  · split
    · exact step.trans (State.beginCycle_becomes _)
    · exact step
  · exact step

theorem State.stopOrProceed_becomes : s.Becomes s.stopOrProceed := by
  unfold State.stopOrProceed
  split
  · split
    · exact .refl
    · exact s.busStop_becomes
  · split
    · exact s.proceed_becomes
    · exact .refl

theorem State.readFailed_becomes (x : Serial) (e : Bool) (n : Nat) : s.Becomes (s.readFailed x e n) := by
  unfold State.readFailed
  split
  · split
    · exact s.withAbm_becomes _
    · split
      · exact .refl
      · exact s.withAbm_becomes _
  · exact (s.withAbm_becomes _).trans (State.hand_becomes _ _)

theorem State.readOutcome_becomes (x : Serial) (e : Bool) (n : Nat) (reply : AttemptReply) : s.Becomes (s.readOutcome x e n reply) := by
  unfold State.readOutcome
  split
  · split
    · exact s.readFailed_becomes ..
    · split
      · exact s.withAbm_becomes _
      · exact (s.withAbm_becomes _).trans (State.hand_becomes _ _)
  all_goals exact s.readFailed_becomes ..

theorem State.readEnd_becomes (x : Serial) (e : Bool) (n : Nat) (reply : AttemptReply) : s.Becomes (s.readEnd x e n reply) := by
  unfold State.readEnd
  dsimp only
  split
  · exact s.withAbm_becomes _
  · exact (s.withAbm_becomes _).trans (State.readOutcome_becomes ..)

theorem State.rollCallEnd_becomes (r : Range) (reply : AttemptReply) : s.Becomes (s.rollCallEnd r reply) := by
  unfold State.rollCallEnd
  split
  · exact s.withAbm_becomes _
  · split
    · exact s.hand_becomes _
    · exact s.withAbm_becomes _
  all_goals exact (s.withAbm_becomes _).trans (State.splitRange_becomes ..)

theorem State.enrollFailed_becomes (r : Range) (x : Serial) (n : Nat) : s.Becomes (s.enrollFailed r x n) := by
  unfold State.enrollFailed
  split
  · split <;> exact s.withAbm_becomes _
  · exact s.splitRange_becomes ..

theorem State.enrollEnd_becomes (r : Range) (x : Serial) (n : Nat) (reply : AttemptReply) : s.Becomes (s.enrollEnd r x n reply) := by
  unfold State.enrollEnd
  split
  · exact (s.withAbm_becomes _).trans (State.enrollFailed_becomes ..)
  · split
    · exact s.hand_becomes _
    · exact (s.withAbm_becomes _).trans (State.enrollFailed_becomes ..)
  all_goals exact (s.withAbm_becomes _).trans (State.enrollFailed_becomes ..)

theorem State.judge_becomes (t : Transaction) (n : Nat) (reply : AttemptReply) : s.Becomes (s.judge t n reply) := by
  cases t with
  | read x e => exact s.readEnd_becomes ..
  | rollCall r => exact s.rollCallEnd_becomes ..
  | enroll r x => exact s.enrollEnd_becomes ..

theorem State.afterAttempt_becomes : s.Becomes s.afterAttempt := by
  unfold State.afterAttempt
  split
  · exact s.busStop_becomes
  · exact s.stopOrProceed_becomes

theorem State.attemptEnd_becomes (t : Transaction) (n : Nat) (reply : AttemptReply) : s.Becomes (s.attemptEnd t n reply) :=
  ((s.withAbm_becomes _).trans (State.judge_becomes _ t n reply)).trans (State.afterAttempt_becomes _)

theorem State.pollNext_becomes (c : Cycle) : s.Becomes (s.pollNext c) := by
  unfold State.pollNext
  split
  · exact s.endPoll_becomes
  · split <;> exact s.withAbm_becomes _

theorem State.beaconSent_becomes : s.Becomes s.beaconSent := by
  have begun : s.Becomes ((s.elapse 77).withActivity .none) := s.withAbm_becomes _
  unfold State.beaconSent
  dsimp only
  split
  · exact begun.trans (State.busStop_becomes _)
  · split
    · exact (begun.trans (State.withAbm_becomes _ _)).trans (State.endPoll_becomes _)
    · exact begun.trans (State.withAbm_becomes _ _)

theorem State.receive_becomes (kind : Transaction → Bool) (reply : AttemptReply) : s.Becomes (s.receive kind reply) := by
  unfold State.receive
  split
  · split
    · exact s.withAbm_becomes _
    · exact .refl
  · exact .refl

end

end Sys2Proof.Machine

/-! SUPPORT. The changes that the acts on zones and nodes make. -/

namespace Sys2Proof.Machine

/-! ### The changes of zone records -/

theorem ZoneState.busy_of_closed {st : ZoneState} (h : ¬st.busy = true) : st.closed = false := by
  cases st with
  | unused => rfl
  | opened => rfl
  | _ => exact absurd rfl h

/-- A member list keeps what R11 asks when accounts and areas stay. -/
theorem membersSound_map {accounts : Vector AccountState 128} {ms : List Member} {f : Member → Member}
    (hf : ∀ m, (f m).account = m.account ∧ (f m).area = m.area) (h : membersSound accounts ms) : membersSound accounts (ms.map f) := by
  obtain ⟨hord, hlen, hall⟩ := h
  refine ⟨List.pairwise_map.2 (hord.imp fun {a b} hab => ?_), by simpa using hlen, fun m hm => ?_⟩
  · rw [(hf a).1, (hf b).1]
    exact hab
  · obtain ⟨x, hx, rfl⟩ := List.mem_map.1 hm
    simpa only [(hf x).1, (hf x).2] using hall x hx

/-- A member list that loses members keeps what R11 asks. -/
theorem membersSound_sublist {accounts : Vector AccountState 128} {ms ns : List Member} (hsub : ns.Sublist ms)
    (h : membersSound accounts ms) : membersSound accounts ns := by
  obtain ⟨hord, hlen, hall⟩ := h
  exact ⟨hord.sublist hsub, hsub.length_le.trans hlen, fun m hm => hall m (hsub.subset hm)⟩

section
variable {accounts : Vector AccountState 128} {old new : Zone}

/-- A change of a zone's values outside its state, its closing half and its members. -/
theorem ZoneChange.of_values (hst : new.state = old.state) (hcl : new.closing = old.closing) (hms : new.members = old.members) :
    ZoneChange accounts old new :=
  ⟨.inl hst, fun h => hst ▸ h, .inl hcl, fun m hm => .inr ⟨m, hms ▸ hm, rfl⟩, fun h => hms ▸ h⟩

/-- A change of the open weights of members. -/
theorem ZoneChange.of_weights {f : Member → Member} (hst : new.state = old.state) (hcl : new.closing = old.closing)
    (hms : new.members = old.members.map f) (hf : ∀ m, (f m).account = m.account ∧ (f m).area = m.area ∧ (f m).closingW = m.closingW) :
    ZoneChange accounts old new where
  state := .inl hst
  armed h := hst ▸ h
  closing := .inl hcl
  weights m hm := by
    obtain ⟨x, hx, rfl⟩ := List.mem_map.1 (hms ▸ hm)
    exact .inr ⟨x, hx, (hf x).2.2.symm⟩
  members h := hms ▸ membersSound_map (fun m => ⟨(hf m).1, (hf m).2.1⟩) h

/-- A change of state among the states outside a settlement, and of values. -/
theorem ZoneChange.of_states (ho : old.state.closed = false) (hn : new.state.closed = false) (ha : new.state ≠ .armed) (hcl : new.closing = old.closing)
    (hms : new.members = old.members) : ZoneChange accounts old new :=
  { ZoneChange.of_values (old := { old with state := new.state }) (new := new) rfl hcl hms with
    state := .inr ⟨ho, hn⟩
    armed := fun h => absurd h ha }

end

section
variable {k : Reach}

theorem State.updZone_becomes (s : State) (z : ZoneNo) (f : Zone → Zone) (h : ZoneChange s.accounts s.zones[z] (f s.zones[z])) :
    s.Reaches k (s.updZone z f) := (Change.zone z _ h).becomes

theorem State.addU_becomes (s : State) (z : ZoneNo) (x : Nat) : s.Reaches k (s.addU z x) :=
  s.updZone_becomes z _ (.of_values rfl rfl rfl)

theorem State.addW_becomes (s : State) (z : ZoneNo) (a : AccountNo) (x : Nat) : s.Reaches k (s.addW z a x) := by
  refine s.updZone_becomes z _ (.of_weights rfl rfl rfl fun m => ?_)
  split <;> exact ⟨rfl, rfl, rfl⟩

end

/-! ### The changes of node entries -/

/-- In an ordered table a serial names one entry. -/
theorem nodesOrdered.unique {l : List NodeEntry} (h : nodesOrdered l) {a b : NodeEntry} (ha : a ∈ l) (hb : b ∈ l)
    (hs : a.serial = b.serial) : a = b :=
  List.inj_on_of_nodup_map (List.Pairwise.imp (fun {_ _} => BitVec.ne_of_lt) h) ha hb hs

section
variable {k : Reach} {s : State} {x : Serial} {f : NodeEntry → NodeEntry} (hf : ∀ e, (f e).serial = e.serial)
include hf

theorem State.updNode_serials : (s.updNode x f).nodes.map (·.serial) = s.nodes.map (·.serial) := by
  show (s.nodes.map _).map _ = _
  rw [List.map_map]
  refine List.map_congr_left fun e _ => ?_
  show NodeEntry.serial (if e.serial = x then f e else e) = e.serial
  split
  · exact hf e
  · rfl

theorem State.updNode_ordered : nodesOrdered (s.updNode x f).nodes ↔ nodesOrdered s.nodes := by
  unfold nodesOrdered
  rw [State.updNode_serials hf]

theorem State.updNode_becomes (hq : nodesOrdered s.nodes → ∀ e ∈ s.nodes, e.serial = x → e.sound → (f e).sound) :
    s.Reaches k (s.updNode x f) := by
  refine (Change.nodes _ (State.updNode_serials hf) fun hord hall e he => ?_).becomes
  obtain ⟨y, hy, rfl⟩ := List.mem_map.1 he
  split
  · rename_i hx
    exact hq hord y hy hx (hall y hy)
  · exact hall y hy

/-- What is said of every entry of a serial is said of the updated entries when the update makes it so. -/
theorem State.updNode_forall {y : Serial} {P Q : NodeEntry → Prop} (h : ∀ e ∈ s.nodes, e.serial = y → P e)
    (hfP : ∀ e, e.serial = x → P e → Q (f e)) (hP : ∀ e, e.serial ≠ x → P e → Q e) :
    ∀ e ∈ (s.updNode x f).nodes, e.serial = y → Q e := by
  intro e he hy
  obtain ⟨d, hd, rfl⟩ := List.mem_map.1 he
  by_cases hx : d.serial = x
  · rw [if_pos hx] at hy ⊢
    exact hfP d hx (h d hd ((hf d).symm.trans hy))
  · rw [if_neg hx] at hy ⊢
    exact hP d hx (h d hd hy)

end

/-! ### The changes of the attribution acts (R133, R136, R141) -/

section
variable {k : Reach} (s : State)

theorem State.halt_becomes (e : NodeEntry) : s.Reaches k (s.halt e) := by
  unfold State.halt
  split
  · exact .refl
  · refine .trans (State.updNode_becomes (f := fun x => { x with state := .halted }) (fun _ => rfl) ?_) (State.flag_becomes _ _)
    exact fun _ _ _ _ _ h => absurd rfl h

theorem State.orphaned_becomes (n : Nat) : s.Reaches k (s.orphaned n) :=
  (s.withAtu_becomes { s.atu with orphan := satAdd lim48 s.atu.orphan n } rfl rfl).trans (State.countTotal_becomes _ _)

theorem State.migrate_becomes (e : NodeEntry) (z : ZoneNo) : s.Reaches k (s.migrate e z) := by
  unfold State.migrate
  split
  · exact .refl
  · exact (State.updNode_becomes (f := fun x => { x with zone := z }) (fun _ => rfl) fun _ _ _ _ h => h).trans (State.countTotal_becomes _ _)

variable {s} in
/-- A tally grows only where the entry is HALTED (R158). -/
theorem State.quarantined_becomes {x : Serial} (n : Nat) (h : nodesOrdered s.nodes → ∀ e ∈ s.nodes, e.serial = x → e.state = .halted) :
    s.Reaches k (s.quarantined x n) :=
  (State.updNode_becomes (f := NodeEntry.quarantine n) (fun _ => rfl) fun hord e he hx _ hn => absurd (h hord e he hx) hn).trans
    (State.countAtu_becomes _ _)

/-! The destination of units that are neither orphaned nor quarantined (R159, R160). -/

section
variable {s : State} {e : NodeEntry} {r : Reading} (hzone : s.zones[r.zone].state ≠ .unused) (htamper : r.status ≠ .tamper)
  (hhalted : e.state ≠ .halted)
include hzone htamper hhalted

theorem State.destination_of_unmatched (hp : (s.migrate e r.zone).matchingPoint r.serial r.zone = none) :
    s.destination e r = ((s.migrate e r.zone).addU r.zone (r.units * 1000)).countAtu .addUnassigned := by
  unfold State.destination
  rw [if_neg hzone]
  dsimp only
  rw [if_neg htamper, if_neg hhalted]
  show (match (s.migrate e r.zone).matchingPoint r.serial r.zone with | none => _ | some _ => _) = _
  rw [hp]

theorem State.destination_of_matched {i : PointNo} (hp : (s.migrate e r.zone).matchingPoint r.serial r.zone = some i) :
    s.destination e r =
      if (s.migrate e r.zone).points[i].kind ≠ r.kind then ((s.migrate e r.zone).addU r.zone (r.units * 1000)).countAtu .addMismatch
      else if (s.migrate e r.zone).zones[r.zone].hasMember (s.migrate e r.zone).points[i].account then
        ((s.migrate e r.zone).addW r.zone (s.migrate e r.zone).points[i].account (r.units * (s.migrate e r.zone).points[i].factor)).countAtu .addMember
      else ((s.migrate e r.zone).addU r.zone (r.units * 1000)).countAtu .addNonMember := by
  unfold State.destination
  rw [if_neg hzone]
  dsimp only
  rw [if_neg htamper, if_neg hhalted]
  show (match (s.migrate e r.zone).matchingPoint r.serial r.zone with | none => _ | some _ => _) = _
  rw [hp]

/-- The units go to the zone's pool or to a member. -/
theorem State.destination_becomes_of_placed : s.Reaches k (s.destination e r) := by
  have pooled (f : AtuCounters → AtuCounters) : s.Reaches k (((s.migrate e r.zone).addU r.zone (r.units * 1000)).countAtu f) :=
    ((s.migrate_becomes e r.zone).trans (State.addU_becomes _ _ _)).trans (State.countAtu_becomes _ _)
  cases hp : (s.migrate e r.zone).matchingPoint r.serial r.zone with
  | none =>
    rw [State.destination_of_unmatched hzone htamper hhalted hp]
    exact pooled _
  | some i =>
    rw [State.destination_of_matched hzone htamper hhalted hp]
    split
    · exact pooled _
    · split
      · exact ((s.migrate_becomes e r.zone).trans (State.addW_becomes _ _ _ _)).trans (State.countAtu_becomes _ _)
      · exact pooled _

end

/-- A move of an entry leaves the states of the table. -/
theorem State.migrate_states (e : NodeEntry) (z : ZoneNo) {x : Serial} {st : NodeState}
    (h : nodesOrdered s.nodes → ∀ y ∈ s.nodes, y.serial = x → y.state = st) :
    nodesOrdered (s.migrate e z).nodes → ∀ y ∈ (s.migrate e z).nodes, y.serial = x → y.state = st := by
  unfold State.migrate
  split
  · exact h
  · intro hord
    have hord' := (State.updNode_ordered (s := s) (f := fun y => { y with zone := z }) fun _ => rfl).1 hord
    exact State.updNode_forall (f := fun y => { y with zone := z }) (P := fun y => y.state = st) (Q := fun y => y.state = st) (fun _ => rfl)
      (h hord') (fun _ _ k => k) (fun _ _ k => k)

/-- After a TAMPER reading the entry stands HALTED. -/
theorem State.halt_halts {e : NodeEntry} (h : nodesOrdered s.nodes → ∀ y ∈ s.nodes, y.serial = e.serial → y.state = e.state) :
    nodesOrdered (s.halt e).nodes → ∀ y ∈ (s.halt e).nodes, y.serial = e.serial → y.state = .halted := by
  unfold State.halt
  split
  · rename_i hst
    exact hst ▸ h
  · intro _
    exact State.updNode_forall (s := s) (f := fun y => { y with state := .halted }) (P := fun y => y.serial = e.serial)
      (Q := fun y => y.state = .halted) (fun _ => rfl) (fun _ _ hy => hy) (fun _ _ _ => rfl) (fun _ hn hy => absurd hy hn)

variable {s} in
/-- The destination of the units; `e` is the entry of the reading's serial as it stands in the table. -/
theorem State.destination_becomes {s : State} {e : NodeEntry} {r : Reading} (hr : e.serial = r.serial)
    (h : nodesOrdered s.nodes → ∀ y ∈ s.nodes, y.serial = r.serial → y.state = e.state) : s.Reaches k (s.destination e r) := by
  have hm := s.migrate_states e r.zone h
  by_cases hzone : s.zones[r.zone].state = .unused
  · unfold State.destination
    rw [if_pos hzone]
    refine .trans ?_ (State.orphaned_becomes _ _)
    split
    · exact s.halt_becomes e
    · exact .refl
  by_cases htamper : r.status = .tamper
  · unfold State.destination
    rw [if_neg hzone]
    dsimp only
    rw [if_pos htamper]
    exact ((s.migrate_becomes e r.zone).trans (State.halt_becomes _ e)).trans
      (State.quarantined_becomes _ (hr ▸ State.halt_halts _ (hr.symm ▸ hm)))
  by_cases hhalted : e.state = .halted
  · unfold State.destination
    rw [if_neg hzone]
    dsimp only
    rw [if_neg htamper, if_pos hhalted]
    exact (s.migrate_becomes e r.zone).trans (State.quarantined_becomes _ (hhalted ▸ hm))
  · exact State.destination_becomes_of_placed hzone htamper hhalted

theorem State.accepted_becomes (r : Reading) : s.Reaches k (s.accepted r) := by
  unfold State.accepted
  split
  · exact .refl
  · rename_i e he
    obtain ⟨hmem, hserial⟩ := State.mem_of_node? he
    have hrec : s.Reaches k (s.updNode r.serial (NodeEntry.record s.abm.cycleNumber r)) :=
      State.updNode_becomes (fun _ => rfl) fun _ y _ _ hy hn => hy fun hst => hn (by simp [NodeEntry.record, hst])
    refine (hrec.trans (State.countAtu_becomes _ _)).trans (State.destination_becomes (e := e.record s.abm.cycleNumber r) hserial fun hord => ?_)
    have hord' : nodesOrdered s.nodes := (State.updNode_ordered (f := NodeEntry.record s.abm.cycleNumber r) fun _ => rfl).1 hord
    exact State.updNode_forall (s := s) (f := NodeEntry.record s.abm.cycleNumber r) (P := fun y => y = e)
      (Q := fun y => y.state = (e.record s.abm.cycleNumber r).state) (fun _ => rfl)
      (fun y hy hx => hord'.unique hy hmem (hx.trans hserial.symm)) (fun y _ hy => hy ▸ rfl) (fun y hx hy => absurd (hy ▸ hserial) hx)

theorem State.missed_becomes (x : Serial) : s.Reaches k (s.missed x) := by
  have hmiss : s.Reaches k (s.updNode x (NodeEntry.miss s.abm.config.silentLimit)) :=
    State.updNode_becomes (fun _ => rfl) fun _ e _ _ hs hn => hs fun hst => hn (by simp [NodeEntry.miss, hst])
  have hflag (c : Prop) [Decidable c] (t : State) : t.Reaches k (if c then t.flag .raiseNodeSilent else t) := by
    split
    · exact t.flag_becomes _
    · exact .refl
  have hremove (c : Prop) [Decidable c] (t : State) :
      t.Reaches k (if c then t.withAtu { t.atu with op := some (.removal x .aging) } else t) := by
    split
    · exact (Change.atu { t.atu with op := some (.removal x .aging) } nofun rfl).becomes
    · exact .refl
  unfold State.missed
  split
  · exact .refl
  · exact (hmiss.trans (hflag _ _)).trans (hremove _ _)

/-- With no operation in progress, a serial not found is absent. -/
theorem State.absent_of_node? {s : State} {x : Serial} (hop : s.opInProgress = false) (h : ¬(s.node? x).isSome = true) :
    ∀ e ∈ s.nodes, e.serial ≠ x := by
  have hnone : s.atu.op = none := by simpa [State.opInProgress] using hop
  have hfind : s.nodes.find? (fun e => e.serial == x) = none := by
    simpa [State.node?, State.presentNodes_of_none s hnone] using h
  simpa using hfind

theorem State.learn_becomes (r : Option Range) (h : HereReply) (hop : s.opInProgress = false) : s.Becomes (s.learn r h) := by
  unfold State.learn
  split
  · refine .trans (s.countTotal_becomes .addZoneInvalid) ?_
    split
    · exact State.splitRange_becomes ..
    · exact .refl
  split
  · refine .trans (State.updNode_becomes (x := h.serial) (f := NodeEntry.relearn h) (fun e => ?_) fun _ e _ _ hs => ?_) ?_
    · unfold NodeEntry.relearn
      split <;> rfl
    · unfold NodeEntry.relearn
      split
      · exact hs
      · rename_i hst
        exact fun _ => hs hst
    · split
      · exact State.startEnroll_becomes ..
      · exact .refl
  split
  · refine .trans (s.countTotal_becomes .addTableFull) ?_
    split
    · exact (State.endSweep_becomes _ _).trans (State.flag_becomes _ _)
    · exact .refl
  · rename_i habsent hroom
    refine .trans (Change.atu { s.atu with op := some (.insertion h) } (fun y hy => ?_) rfl).becomes ?_
    · obtain rfl : h = y := by simpa using hy
      exact .inr ⟨Nat.lt_of_not_le hroom, State.absent_of_node? hop habsent⟩
    · split
      · exact State.withAbm_becomes _ _
      · exact .refl

theorem State.setToggle_becomes (r : Option Range) (x : Serial) : s.Becomes (s.setToggle r x) := by
  unfold State.setToggle
  refine .trans (State.updNode_becomes (x := x) (f := fun e => { e with toggle := true }) (fun _ => rfl) fun _ _ _ _ h => h) ?_
  split
  · exact State.withAbm_becomes _ _
  · exact .refl

theorem State.forgetReply_becomes (op : NodeOp) : s.Reaches k (s.forgetReply op) := by
  unfold State.forgetReply
  split
  · exact s.withLink_becomes _
  · exact .refl

theorem State.afterInsertion_becomes : s.Becomes s.afterInsertion := by
  unfold State.afterInsertion
  split
  · exact (s.withAbm_becomes _).trans (State.startEnroll_becomes ..)
  all_goals exact .refl

variable {s} in
theorem State.opEnded_becomes {op : NodeOp} (w : Nat) (h : s.atu.op = some op) : s.Becomes (s.opEnded op w) := by
  have counted : ∃ t, t = (if s.busWaits then s.elapse (max w s.counted) else s) ∧ s.Becomes t ∧ t.atu.op = some op := by
    split
    · exact ⟨_, rfl, s.withAbm_becomes _, h⟩
    · exact ⟨_, rfl, .refl, h⟩
  obtain ⟨t, ht, hst, hop⟩ := counted
  have hall : s.Becomes (((t.tableChanged op).forgetReply op).afterInsertion) :=
    ((hst.trans (Change.table op hop).becomes).trans (State.forgetReply_becomes _ _)).trans (State.afterInsertion_becomes _)
  unfold State.opEnded
  dsimp only
  rw [← ht]
  split
  · exact hall.trans (State.stopOrProceed_becomes _)
  · exact hall

theorem State.completeHanded_becomes : s.Becomes s.completeHanded := by
  unfold State.completeHanded
  split
  · exact .refl
  · rename_i hop
    have hop' : s.opInProgress = false := by simpa using hop
    have handed := s.hand_becomes none
    split
    · exact handed.trans (State.accepted_becomes _ _)
    · exact handed.trans (State.missed_becomes _ _)
    · exact handed.trans (State.learn_becomes _ _ _ hop')
    · exact handed.trans (State.setToggle_becomes _ _ _)
    · exact .refl

end

end Sys2Proof.Machine

/-! SUPPORT. The changes that channels, settlements and the supervisor make. -/

namespace Sys2Proof.Machine

/-! ### The changes of channels and inputs -/

theorem ChannelChange.refl (c : Channel) (i : Input) : ChannelChange c i c i :=
  ⟨.inr ⟨rfl, rfl⟩, id, id, id, id⟩

/-- A change of a channel's values outside its zone, its closing half and its state. -/
theorem ChannelChange.of_values {c d : Channel} (i : Input) (hcl : d.closing = c.closing) (hz : d.zone = c.zone)
    (hcarry : c.carry < 100000000 → d.carry < 100000000) (hst : d.state = c.state) (hstatus : d.status = c.status) :
    ChannelChange c i d i :=
  ⟨.inr ⟨hcl, hz⟩, hcarry, by rw [hst]; exact id, by rw [hst, hstatus]; exact id, id⟩

/-- A change of an input that leaves it running or stopped, as it was. -/
theorem ChannelChange.of_input (c : Channel) {i j : Input} (hr : j.running = i.running) (hh : j.handover ≠ none → i.handover ≠ none ∨ i.running = true) :
    ChannelChange c i c j :=
  ⟨.inr ⟨rfl, rfl⟩, id, by rw [hr]; exact id, id, fun h hn => hr ▸ (hh hn).elim h id⟩

section
variable {k : Reach} (s : State) (c : ChannelNo)

theorem State.updBoth_becomes (f : Channel → Channel) (g : Input → Input)
    (h : ChannelChange s.channels[c] s.inputs[c] (f s.channels[c]) (g s.inputs[c])) : s.Reaches k ((s.updChannel c f).updInput c g) := by
  refine (Change.channels (upd s.channels c f) (upd s.inputs c g) fun d => ?_).becomes
  rw [upd_get, upd_get]
  by_cases hd : c = d
  · subst hd
    rw [if_pos rfl, if_pos rfl]
    exact h
  · rw [if_neg hd, if_neg hd]
    exact .refl _ _

theorem upd_id {α : Type} {n : Nat} (v : Vector α n) (i : Fin n) : upd v i id = v := Vector.set_getElem_self i.isLt

theorem State.updChannel_becomes (f : Channel → Channel) (h : ChannelChange s.channels[c] s.inputs[c] (f s.channels[c]) s.inputs[c]) :
    s.Reaches k (s.updChannel c f) := by
  have hboth := s.updBoth_becomes (k := k) c f id h
  rwa [State.updInput, State.updChannel, State.withChannels_inputs, upd_id] at hboth

theorem State.updInput_becomes (g : Input → Input) (h : ChannelChange s.channels[c] s.inputs[c] s.channels[c] (g s.inputs[c])) :
    s.Reaches k (s.updInput c g) := by
  have hboth := s.updBoth_becomes (k := k) c id g h
  rwa [State.updChannel, upd_id, State.withChannels_self] at hboth

theorem State.takePulse_becomes (p : Pulse) : s.Reaches k (s.takePulse c p) := by
  have htaken : s.Reaches k (s.updChannel c (Channel.takePulse s.band (s.ssv.supply == .backup) p)) := by
    obtain ⟨hst, hstatus, hz, hcl⟩ := Channel.takePulse_state s.band (s.ssv.supply == .backup) p s.channels[c]
    exact s.updChannel_becomes c _ (.of_values _ hcl hz (Channel.takePulse_carry _ _ _ _) hst hstatus)
  unfold State.takePulse
  dsimp only
  split
  · exact htaken.trans (State.flag_becomes _ _)
  · exact htaken

/-- A pair moves the channel among the states that follow the sensor status, or leaves it DISABLED or PAUSED (R65). -/
theorem Channel.takePair_change (limit : Nat) (f r : SensorResult) (d : Channel) (i : Input) :
    ChannelChange d i (d.takePair limit f r) i where
  closing := .inr ⟨rfl, rfl⟩
  carry := id
  runs h := by
    rw [h]
    unfold Channel.takePair
    cases d.state <;> simp [ChannelState.integrating] <;> cases (d.pairOutcome limit f r).1 <;> simp [SensorStatus.channelState]
  mirror h := by
    unfold Channel.takePair
    dsimp only
    split
    · exact fun _ => rfl
    · rename_i hst
      exact fun hst' => absurd hst' hst
  handover := id

theorem State.takePair_becomes (f r : SensorResult) : s.Reaches k (s.takePair c f r) := by
  have htaken : s.Reaches k (s.updChannel c (Channel.takePair s.tcv.holdLimit f r)) :=
    s.updChannel_becomes c _ (Channel.takePair_change ..)
  unfold State.takePair
  split
  · exact .refl
  · dsimp only
    split
    · exact htaken.trans (State.flag_becomes _ _)
    · exact htaken

theorem State.beginRound_becomes : s.Reaches k s.beginRound := s.beginRound_frame ▸ s.withTcv_becomes _

theorem State.nextGate_becomes (r : Round) : s.Reaches k (s.nextGate r) := s.nextGate_frame r ▸ s.withTcv_becomes _

theorem State.scanSetGrown_becomes : s.Reaches k s.scanSetGrown := s.scanSetGrown_frame ▸ s.withTcv_becomes _

theorem State.scanSetShrunk_becomes : s.Reaches k (s.scanSetShrunk c) := s.scanSetShrunk_frame c ▸ s.withTcv_becomes _

theorem State.sensorGateEnd_becomes (n : SensorNo) (r : Round) (ts : Option Nat) : s.Reaches k (s.sensorGateEnd n r ts) := by
  unfold State.sensorGateEnd
  dsimp only
  refine .trans (s.withTcv_becomes { s.tcv with last := upd s.tcv.last n (SensorRecord.after (classify s.tcv.calibration[n] r ts) ts r.tref
    s.tcv.roundNumber) }) ?_
  split
  · split
    · exact (State.takePair_becomes _ _ _ _).trans (State.nextGate_becomes _ _)
    · exact State.nextGate_becomes _ _
  · exact State.nextGate_becomes _ _

/-! ### The changes of a tick (R89 to R97) -/

theorem Input.tick_running (x : Level) (i : Input) : (i.tick x).running = i.running := by
  unfold Input.tick Input.pulse Input.settleLevel Input.sampleLevel Input.compare Input.advance
  dsimp only
  split <;> split <;> split <;> split <;> (try split) <;> rfl

theorem State.takeHandover_becomes : s.Reaches k (s.takeHandover c) := by
  unfold State.takeHandover
  split
  · exact .refl
  · refine .trans (s.updInput_becomes c (fun i => { i with handover := none }) ?_) (State.takePulse_becomes _ _ _)
    exact .of_input _ rfl fun h => absurd rfl h

theorem State.takeHandover_running : (s.takeHandover c).inputs[c].running = s.inputs[c].running := by
  unfold State.takeHandover
  split
  · rfl
  · rw [State.takePulse_frame]
    show (upd s.inputs c _)[c.val].running = _
    rw [upd_same]
    rfl

theorem State.tick_becomes (x : Sample) : s.Reaches k (s.tick c x) := by
  unfold State.tick
  split
  · rename_i hs
    have hrun : s.inputs[c].running = true := (Bool.and_eq_true_iff.1 hs).2
    have hticked : s.Reaches k ((s.takeHandover c).updInput c (Input.tick x.level)) := by
      refine (s.takeHandover_becomes c).trans (State.updInput_becomes _ c _ ?_)
      exact .of_input _ (Input.tick_running ..) fun _ => .inr ((s.takeHandover_running c).trans hrun)
    dsimp only
    split
    · exact hticked.trans (State.takeHandover_becomes _ c)
    · exact hticked
  · exact .refl

theorem State.candidateTick_becomes (allowed : Bool) : s.Reaches k (s.candidateTick c allowed) := by
  unfold State.candidateTick
  split
  · split
    · exact s.tick_becomes c _
    · exact .refl
  · exact .refl

end

/-! ### The changes of a settlement (R35 to R40) -/

section
variable {k : Reach}

/-- The ledgers that a settlement posts to are those of OPEN members and of the house. -/
theorem State.postAll_becomes (s : State) (g : Gathered) (posting : Nat → Posting) (whole : Posting) :
    s.Reaches k (s.postAll g posting whole).1 := by
  -- the changes of ledgers keep the accounts, so that an account that was OPEN at the start is so at every posting
  have own (x : State × Bool) (a : AccountNo) (p : Posting) (hx : s.Reaches k x.1 ∧ x.1.accounts = s.accounts) (ha : s.isOpen a = true) :
      s.Reaches k (State.postOwn x a p g).1 ∧ (State.postOwn x a p g).1.accounts = s.accounts := by
    refine ⟨hx.1.trans (Change.ledgers _ fun _ b hb => .inl ?_).becomes, hx.2⟩
    have hne : a ≠ b := by
      rintro rfl
      simp [State.isOpen, ← hx.2, hb] at ha
    rw [upd_other _ _ hne]
  have house (x : State × Bool) (f : Ledger → Ledger) (hx : s.Reaches k x.1 ∧ x.1.accounts = s.accounts) :
      s.Reaches k (x.1.updLedger 0 f) ∧ (x.1.updLedger 0 f).accounts = s.accounts := by
    refine ⟨hx.1.trans (Change.ledgers _ fun h0 b hb => .inl ?_).becomes, hx.2⟩
    have hne : (0 : AccountNo) ≠ b := by
      rintro rfl
      rw [h0] at hb
      cases hb
    rw [upd_other _ _ hne]
  have member (l : List (Nat × Snapshot)) (x : State × Bool) (hx : s.Reaches k x.1 ∧ x.1.accounts = s.accounts) :
      s.Reaches k (l.foldl (State.postMember s.isOpen g posting) x).1 ∧
        (l.foldl (State.postMember s.isOpen g posting) x).1.accounts = s.accounts := by
    induction l generalizing x with
    | nil => exact hx
    | cons m l ih =>
      refine ih _ ?_
      unfold State.postMember
      split
      · rename_i hopen
        exact own x _ _ hx hopen
      · obtain ⟨h1, h2⟩ := house x _ hx
        exact ⟨h1.trans (Change.house _).becomes, h2⟩
  unfold State.postAll
  split
  · exact (house _ _ ⟨((house (s, false) _ ⟨.refl, rfl⟩).1).trans (Change.house _).becomes, rfl⟩).1
  · have hall := member (g.members.zipIdx.map fun mi => (mi.2, mi.1)) (s, false) ⟨.refl, rfl⟩
    dsimp only
    split
    · exact hall.1
    · exact (house _ _ hall).1

/-- The postings change ledgers and the itemisation alone. -/
theorem State.postAll_frame (s : State) (g : Gathered) (posting : Nat → Posting) (whole : Posting) :
    (s.postAll g posting whole).1 = (s.withLedgers (s.postAll g posting whole).1.ledgers).withHouse (s.postAll g posting whole).1.house := by
  have member (o : AccountNo → Bool) (l : List (Nat × Snapshot)) (x : State × Bool) : (l.foldl (State.postMember o g posting) x).1 =
      (x.1.withLedgers (l.foldl (State.postMember o g posting) x).1.ledgers).withHouse (l.foldl (State.postMember o g posting) x).1.house := by
    induction l generalizing x with
    | nil => rfl
    | cons m l ih =>
      rw [List.foldl_cons, ih]
      unfold State.postMember
      split <;> rfl
  unfold State.postAll
  split
  · rfl
  · dsimp only
    split
    · exact member ..
    · unfold State.countHouse
      rw [member]
      rfl

theorem State.postSettlement_becomes (s : State) (z : ZoneNo) (g : Gathered) (f : FixedParts) (c : ConsumptionParts) (a : Bands (List Nat)) :
    s.Reaches k (s.postSettlement z g f c a) :=
  (s.postAll_becomes ..).trans (Change.records _).becomes

theorem State.postSettlement_sen (s : State) (z : ZoneNo) (g : Gathered) (f : FixedParts) (c : ConsumptionParts) (a : Bands (List Nat)) :
    (s.postSettlement z g f c a).sen = s.sen := by
  unfold State.postSettlement
  rw [State.withRecords_sen, State.postAll_frame]
  rfl

/-- What a stage finds: the engine is at it, with its zone. -/
theorem State.atStage_eq_some {s : State} {st : Stage} {z : ZoneNo} (h : s.atStage st = some z) :
    s.mainRuns = true ∧ s.sen.stage = st ∧ s.sen.zone = some z := by
  unfold State.atStage at h
  split at h
  · rename_i hst
    rw [Bool.and_eq_true, beq_iff_eq] at hst
    exact ⟨hst.1, hst.2, h⟩
  · cases h

/-- A stage hands on to the next. -/
theorem State.toStage_becomes {s : State} {z : ZoneNo} {now : Stage} (h : s.atStage now = some z) (next : Stage) (x : Scratch)
    (hnow : now ≠ .idle) (hnext : next ≠ .idle) : s.Reaches k (s.toStage next x) :=
  (Change.stage next x ((State.atStage_eq_some h).2.1 ▸ hnow) hnext).becomes

end

/-! ### The changes of the supervisor (R188 to R196) -/

section
variable (s : State)

theorem State.stopMain_becomes : s.Becomes s.stopMain := by
  have hclose : s.Becomes s.closeForStop := by
    unfold State.closeForStop
    split
    · exact .refl
    · exact s.closeArmed_becomes _
  have hatu (t : State) : t.Becomes (t.withAtu { t.atu with op := none, handed := none }) :=
    (Change.atu { t.atu with op := none } nofun rfl).becomes.trans (Change.hand none).becomes
  have hrest (t : State) : t.Becomes ((((t.withLink t.link.stop).withTcv { t.tcv with round := none }).withAbm t.abm.stop).withAtu
      { t.atu with op := none, handed := none }) :=
    (((t.withLink_becomes _).trans (State.withTcv_becomes _ _)).trans (State.withAbm_becomes _ _)).trans (hatu _)
  exact (hclose.trans Change.stopSen.becomes).trans (hrest _)

theorem State.recordLostSweep_becomes {k : Reach} : s.Reaches k s.recordLostSweep := by
  unfold State.recordLostSweep
  split
  · exact (s.values_becomes { s.abm with lastSweep := .abortedStop, sweepLost := false } ⟨rfl, rfl, rfl, id⟩).trans (State.flag_becomes _ _)
  · exact .refl

theorem State.warmBus_becomes : s.Becomes s.warmBus := by
  unfold State.warmBus
  have hrot := s.recordLostSweep_becomes.trans (State.withAbm_becomes _ { s.recordLostSweep.abm with rotation := 0 })
  dsimp only
  split
  · exact hrot.trans (State.beginCycle_becomes _)
  · exact hrot

variable {s} in
/-- A start from a supervisor's state that the checks have led to. -/
theorem State.start_becomes {v : Ssv}
    (hwarm : v.markerValid = true → s.SupplySound → (s.withSsv { v with domain := .running }).SupplySound)
    (hcold : s.SupplySound → (s.withSsv { v with markerValid := false, domain := .coldStart }).SupplySound) :
    s.Reaches .supply (s.withSsv v).start := by
  unfold State.start
  split
  · rename_i hv
    unfold State.warmStart
    refine .trans (Change.ssv _ (hwarm hv)).becomes ?_
    exact ((State.withLink_becomes _ _).trans (State.beginRound_becomes _)).trans (State.warmBus_becomes _).supply
  · exact (Change.coldStart _ hcold).becomes

theorem State.execMainSupplyLoss_becomes (usable : Bool) : ∃ t, execMainSupplyLoss usable s = .next t ∧ s.Reaches .supply t := by
  refine ⟨_, rfl, ?_⟩
  split
  · exact .refl
  split
  · refine s.stopMain_becomes.supply.trans (Change.ssv _ fun h => ?_).becomes
    exact ⟨fun k => absurd rfl k, nofun, nofun, nofun, fun _ => rfl⟩
  split
  · rename_i hq
    refine (Change.ssv _ fun h => ?_).becomes
    obtain ⟨h1, h2, h3, h4, h5⟩ := h
    have hoff : s.ssv.domain = .off := by
      by_contra hn
      exact Bool.false_ne_true ((h1 hn).2.2.1.symm.trans hq)
    exact ⟨fun k => absurd hoff k, h2, h3, h4, h5⟩
  · refine (s.stopMain_becomes.supply.trans (Change.ssv _ fun h => ?_).becomes).trans (State.flag_becomes _ _)
    obtain ⟨-, -, -, -, h5⟩ := h
    exact ⟨fun k => absurd rfl k, nofun, nofun, nofun, h5⟩

theorem State.execMainSupplyRise_becomes : ∃ t, execMainSupplyRise s = .next t ∧ s.Reaches .supply t := by
  refine ⟨_, rfl, ?_⟩
  split
  · exact .refl
  · rename_i hp
    refine (Change.ssv _ fun h => ?_).becomes
    obtain ⟨h1, h2, h3, h4, h5⟩ := h
    have hoff : s.ssv.domain = .off := by
      by_contra hn
      exact hp (h1 hn).2.1
    exact ⟨fun k => absurd hoff k, h2, h3, h4, h5⟩

theorem State.execRetentionLoss_becomes : ∃ t, execRetentionLoss s = .next t ∧ s.Reaches .supply t := by
  refine ⟨_, rfl, ?_⟩
  split
  · exact .refl
  · rename_i hp
    refine (Change.ssv { s.ssv with markerValid := false, powered := false } fun h => ?_).becomes
    obtain ⟨h1, -, -, h4, -⟩ := h
    have hoff : s.ssv.domain = .off := by
      by_contra hn
      exact hp (h1 hn).2.1
    exact ⟨fun k => absurd hoff k, fun (k : s.ssv.domain = .running) => absurd (hoff.symm.trans k) nofun,
      fun (k : s.ssv.domain = .coldStart) => absurd (hoff.symm.trans k) nofun, h4, fun _ => rfl⟩

theorem State.execQualificationComplete_becomes : ∃ t, execQualificationComplete s = .next t ∧ s.Reaches .supply t := by
  refine ⟨_, rfl, ?_⟩
  split
  · rename_i hq
    obtain ⟨-, hp⟩ := Bool.and_eq_true_iff.1 hq
    unfold State.qualified
    dsimp only
    split
    · rename_i hr
      refine (Change.ssv { s.ssv with qualifying := false, supply := .main, powered := true, domain := .held } fun _ => ?_).becomes
      exact ⟨fun _ => ⟨rfl, hp, rfl, rfl⟩, nofun, nofun, fun _ => hr, nofun⟩
    · rename_i hr
      have hr' : s.ssv.resetAsserted = false := by simpa [State.updSsv] using hr
      refine State.start_becomes (v := { s.ssv with qualifying := false, supply := .main, powered := true }) (fun hv _ => ?_) fun _ => ?_
      · exact ⟨fun _ => ⟨rfl, hp, rfl, rfl⟩, fun _ => ⟨hv, hr'⟩, nofun, nofun, nofun⟩
      · exact ⟨fun _ => ⟨rfl, hp, rfl, rfl⟩, nofun, fun _ => ⟨rfl, hr'⟩, nofun, fun _ => rfl⟩
  · exact .refl

theorem State.execResetAssert_becomes : ∃ t, execResetAssert s = .next t ∧ s.Reaches .supply t := by
  refine ⟨_, rfl, ?_⟩
  split
  · exact .refl
  unfold State.holdReset
  split
  · rename_i hd
    have hd' : s.stopMain.ssv.domain = .running := s.stopMain_beside.2 ▸ hd
    refine s.stopMain_becomes.supply.trans (Change.ssv { s.stopMain.ssv with domain := .held, resetAsserted := true } fun h => ?_).becomes
    obtain ⟨h1, -, -, -, h5⟩ := h
    exact ⟨fun _ => h1 (by rw [hd']; decide), nofun, nofun, fun _ => rfl, h5⟩
  · rename_i hd
    refine (Change.ssv { s.ssv with domain := .held, markerValid := false, resetAsserted := true } fun h => ?_).becomes
    obtain ⟨h1, -, -, -, -⟩ := h
    exact ⟨fun _ => h1 (by rw [hd]; decide), nofun, nofun, fun _ => rfl, fun _ => rfl⟩
  · rename_i hd
    refine (Change.ssv { s.ssv with resetAsserted := true } fun h => ?_).becomes
    obtain ⟨h1, -, -, -, h5⟩ := h
    exact ⟨h1, fun (k : s.ssv.domain = .running) => absurd (hd.symm.trans k) nofun,
      fun (k : s.ssv.domain = .coldStart) => absurd (hd.symm.trans k) nofun, fun _ => rfl, h5⟩
  · rename_i hd
    refine (Change.ssv { s.ssv with resetAsserted := true } fun h => ?_).becomes
    obtain ⟨h1, -, -, -, h5⟩ := h
    exact ⟨h1, fun (k : s.ssv.domain = .running) => absurd (hd.symm.trans k) nofun,
      fun (k : s.ssv.domain = .coldStart) => absurd (hd.symm.trans k) nofun, fun _ => rfl, h5⟩

theorem State.execResetRelease_becomes : ∃ t, execResetRelease s = .next t ∧ s.Reaches .supply t := by
  refine ⟨_, rfl, ?_⟩
  split
  · rename_i hr
    dsimp only
    split
    · rename_i hd
      have hd' : s.ssv.domain = .held := hd
      refine State.start_becomes (v := { s.ssv with resetAsserted := false }) (fun hv h => ?_) fun h => ?_
      all_goals obtain ⟨h1, -, -, -, h5⟩ := h
      all_goals have hmain := h1 (by rw [hd']; decide)
      · exact ⟨fun _ => hmain, fun _ => ⟨hv, rfl⟩, nofun, nofun, h5⟩
      · exact ⟨fun _ => hmain, nofun, fun _ => ⟨rfl, rfl⟩, nofun, fun _ => rfl⟩
    · rename_i hd
      refine (Change.ssv { s.ssv with resetAsserted := false } fun h => ?_).becomes
      obtain ⟨h1, h2, h3, -, h5⟩ := h
      exact ⟨h1, fun k => ⟨(h2 k).1, rfl⟩, fun k => ⟨(h3 k).1, rfl⟩, fun k => absurd k hd, h5⟩
  · exact .refl

theorem State.execColdStartEnd_becomes : ∃ t, execColdStartEnd s = .next t ∧ s.Reaches .supply t := by
  refine ⟨_, rfl, ?_⟩
  split
  · rename_i hd
    refine .trans (Change.ssv { s.ssv with markerValid := true, domain := .running } fun h => ?_).becomes (State.flag_becomes _ _)
    obtain ⟨h1, -, h3, -, -⟩ := h
    have hmain := h1 (by rw [hd]; decide)
    exact ⟨fun _ => hmain, fun _ => ⟨rfl, (h3 hd).2⟩, nofun, nofun,
      fun (k : s.ssv.powered = false) => absurd (hmain.2.2.2.symm.trans k) nofun⟩
  · exact .refl

variable {s} in
theorem State.replySent_becomes (r : Reply) (hr : s.mainRuns = true) : s.Reaches .supply (s.replySent r) := by
  have hd : s.ssv.domain = .running := by simpa [State.mainRuns] using hr
  unfold State.replySent
  split
  · refine (Change.coldStart { s.ssv with markerValid := false, domain := .coldStart } fun h => ?_).becomes
    obtain ⟨h1, h2, -, -, -⟩ := h
    exact ⟨fun _ => h1 (by rw [hd]; decide), nofun, fun _ => ⟨rfl, (h2 hd).2⟩, nofun, fun _ => rfl⟩
  · exact s.withLink_becomes _

end

end Sys2Proof.Machine

/-! SUPPORT. The changes that the requests make, and with them every command. -/

namespace Sys2Proof.Machine

/-! ### The changes of requests -/

/-- The state that an owner's answer leaves, LINK's reply aside. -/
def Answer.state : Answer → State
  | .reply _ _ s => s
  | .wait s => s

@[simp] theorem refuse_state (st : Status) (s : State) : (refuse st s).state = s := rfl
@[simp] theorem accept_state (c : Content) (s : State) : (accept c s).state = s := rfl

/-- What an owner's answer can be: a refusal with nothing changed, an acceptance, or a wait for the reply. -/
inductive Answer.Proper (r : Reach) (s : State) : Answer → Prop where
  | refused (st : Status) (h : st ≠ .ok) : Answer.Proper r s (refuse st s)
  | done (c : Content) {t : State} (h : s.Reaches r t) : Answer.Proper r s (accept c t)
  | waits {t : State} (h : s.Reaches r t) : Answer.Proper r s (.wait t)

theorem Answer.Proper.reaches {r : Reach} {s : State} {a : Answer} (h : a.Proper r s) : s.Reaches r a.state := by
  cases h with
  | refused => exact .refl
  | done _ h => exact h
  | waits h => exact h

/-- A request makes its owner's changes and those of LINK. -/
theorem State.take_becomes {r : Reach} (s : State) (i : Instr) (type : Byte) {owner : State → Answer} (h : ∀ t : State, (owner t).Proper r t) :
    s.Reaches r (s.take i type owner) := by
  have harrive : s.Reaches r s.arrive := s.arrive_frame ▸ s.withLink_becomes _
  have howner := harrive.trans (h s.arrive).reaches
  unfold State.take
  split
  · cases hans : owner s.arrive with
    | reply st c t =>
      rw [hans] at howner
      exact howner.trans (State.withLink_becomes _ _)
    | wait t =>
      rw [hans] at howner
      exact howner.trans (State.withLink_becomes _ _)
  · exact .refl

section
variable {r : Reach} {s : State}

/-! The checks that families of requests share. -/

theorem withAccount_proper {b : Byte} {k : AccountNo → Answer} (h : ∀ a, a ≠ 0 → (k a).Proper r s) :
    (withAccount b s k).Proper r s := by
  unfold withAccount
  split
  · exact .refused _ nofun
  · split
    · exact .refused _ nofun
    · exact h _ (by assumption)

theorem withZone_proper {b : Byte} {k : ZoneNo → Answer} (h : ∀ z, (k z).Proper r s) : (withZone b s k).Proper r s := by
  unfold withZone
  split
  · exact .refused _ nofun
  · exact h _

theorem whenOpen_proper {z : ZoneNo} {k : Unit → Answer} (h : s.zones[z].state.closed = false → (k ()).Proper r s) :
    (whenOpen z s k).Proper r s := by
  unfold whenOpen
  split
  · exact .refused _ nofun
  · split
    · exact .refused _ nofun
    · exact h (ZoneState.busy_of_closed (by assumption))

theorem withChannel_proper {b : Byte} {k : ChannelNo → Answer} (h : ∀ c, (k c).Proper r s) : (withChannel b s k).Proper r s := by
  unfold withChannel
  split
  · exact .refused _ nofun
  · exact h _

theorem withPoint_proper {b : Byte} {k : PointNo → Answer} (h : ∀ i, (k i).Proper r s) : (withPoint b s k).Proper r s := by
  unfold withPoint
  split
  · exact .refused _ nofun
  · exact h _

/-! Accounts. -/

theorem State.moveAccount_proper {a : AccountNo} {st : AccountState} (h0 : a ≠ 0)
    (h : st = .free → s.ledgers[a].unbilled = .zero ∧ ∀ z : ZoneNo, s.zones[z].hasMember a = false) :
    (s.moveAccount a st).Proper r s := .done _ (Change.account a st h0 h).becomes

theorem openAccountOwner_proper (b : Byte) : (openAccountOwner b s).Proper r s := by
  refine withAccount_proper fun a h0 => ?_
  split
  · exact .refused _ nofun
  split
  · exact .refused _ nofun
  · exact State.moveAccount_proper h0 nofun

theorem vacateAccountOwner_proper (b : Byte) : (vacateAccountOwner b s).Proper r s := by
  refine withAccount_proper fun a h0 => ?_
  split
  · exact State.moveAccount_proper h0 nofun
  · exact .refused _ nofun

theorem freeAccountOwner_proper (b : Byte) : (freeAccountOwner b s).Proper r s := by
  refine withAccount_proper fun a h0 => ?_
  split
  · exact .refused _ nofun
  split
  · exact .refused _ nofun
  split
  · exact .refused _ nofun
  · rename_i hmember hledger
    refine State.moveAccount_proper h0 fun _ => ⟨?_, fun z => ?_⟩
    · exact not_not.1 fun hne => hledger ((s.not_ledgerZero_iff h0).2 hne)
    · rw [State.isMember_iff] at hmember
      exact Bool.eq_false_iff.2 fun hz => hmember ⟨z, hz⟩

/-! Zones. -/

theorem defineZoneOwner_proper (zb mb : Byte) (f : Word16) (xb : Byte) : (defineZoneOwner zb mb f xb s).Proper r s := by
  refine withZone_proper fun z => ?_
  split
  · split
    · exact .refused _ nofun
    split
    · exact .refused _ nofun
    split
    · rename_i hst
      refine .done _ (State.updZone_becomes s z _ ⟨.inr ⟨by rw [hst]; rfl, rfl⟩, nofun, .inr rfl, nofun, fun _ => ?_⟩)
      exact ⟨.nil, by simp, nofun⟩
    split
    · exact .refused _ nofun
    · exact .done _ (State.updZone_becomes s z _ (.of_values rfl rfl rfl))
  · exact .refused _ nofun

theorem deleteZoneOwner_proper (zb : Byte) : (deleteZoneOwner zb s).Proper r s := by
  refine withZone_proper fun z => whenOpen_proper fun hopen => ?_
  split
  · exact .refused _ nofun
  · exact .done _ (State.updZone_becomes s z _ (.of_states hopen rfl nofun rfl rfl))

theorem mem_insertMember (m x : Member) (l : List Member) : x ∈ insertMember m l ↔ x = m ∨ x ∈ l := by
  induction l with
  | nil => simp [insertMember]
  | cons y l ih =>
    unfold insertMember
    split
    · simp
    · simp only [List.mem_cons, ih]
      tauto

theorem length_insertMember (m : Member) (l : List Member) : (insertMember m l).length = l.length + 1 := by
  induction l with
  | nil => rfl
  | cons y l ih => unfold insertMember; split <;> simp [ih]

/-- Insertion of an account that is not in the list keeps the ascending order. -/
theorem pairwise_insertMember {m : Member} {l : List Member} (h : l.Pairwise (fun a b => a.account < b.account))
    (ha : ∀ x ∈ l, x.account ≠ m.account) : (insertMember m l).Pairwise (fun a b => a.account < b.account) := by
  induction l with
  | nil => simp [insertMember]
  | cons y l ih =>
    obtain ⟨hy, hl⟩ := List.pairwise_cons.1 h
    unfold insertMember
    split
    · rename_i hlt
      refine List.pairwise_cons.2 ⟨fun x hx => ?_, h⟩
      rcases List.mem_cons.1 hx with rfl | hx
      · exact hlt
      · exact hlt.trans (hy x hx)
    · rename_i hge
      refine List.pairwise_cons.2 ⟨fun x hx => ?_, ih hl fun x hx => ha x (List.mem_cons_of_mem _ hx)⟩
      rcases (mem_insertMember m x l).1 hx with rfl | hx
      · exact lt_of_le_of_ne (le_of_not_gt hge) (ha y List.mem_cons_self)
      · exact hy x hx

theorem addMemberOwner_proper (zb ab : Byte) (area : Word16) : (addMemberOwner zb ab area s).Proper r s := by
  refine withZone_proper fun z => ?_
  split
  · exact .refused _ nofun
  rename_i a _
  split
  · exact .refused _ nofun
  rename_i harea
  refine whenOpen_proper fun _ => ?_
  split
  · exact .refused _ nofun
  split
  · exact .refused _ nofun
  split
  · exact .refused _ nofun
  rename_i hacc hmem hlen
  refine .done _ (State.updZone_becomes s z _ ⟨.inl rfl, id, .inl rfl, fun m hm => ?_, fun ⟨hord, hle, hall⟩ => ⟨?_, ?_, fun m hm => ?_⟩⟩)
  · rcases (mem_insertMember ..).1 hm with rfl | hm
    · exact .inl rfl
    · exact .inr ⟨m, hm, rfl⟩
  · exact pairwise_insertMember hord fun x hx hxa => hmem ((Zone.hasMember_iff _ _).2 ⟨x, hx, hxa⟩)
  · rw [length_insertMember]
    omega
  · rcases (mem_insertMember ..).1 hm with rfl | hm
    · exact ⟨fun h0 => hacc (.inr h0), fun hfree => hacc (.inl hfree), Nat.pos_of_ne_zero harea⟩
    · exact hall m hm

theorem removeMemberOwner_proper (zb ab : Byte) : (removeMemberOwner zb ab s).Proper r s := by
  refine withZone_proper fun z => ?_
  split
  · exact .refused _ nofun
  refine whenOpen_proper fun _ => ?_
  split
  · exact .refused _ nofun
  · exact .done _ (State.updZone_becomes s z _ ⟨.inl rfl, id, .inl rfl, fun m hm => .inr ⟨m, List.mem_of_mem_filter hm, rfl⟩,
      membersSound_sublist List.filter_sublist⟩)

theorem readZoneOwner_proper (zb fb : Byte) : (readZoneOwner zb fb s).Proper r s := by
  refine withZone_proper fun z => ?_
  split
  · exact .refused _ nofun
  · exact .done _ .refl

theorem setPricesOwner_proper (mb : Byte) (p0 p1 p2 p3 : Word16) : (setPricesOwner mb p0 p1 p2 p3 s).Proper r s := by
  unfold setPricesOwner
  split
  · exact .refused _ nofun
  · exact .done _ (Change.prices _).becomes

theorem setBandOwner_proper (bb : Byte) : (setBandOwner bb s).Proper r s := by
  unfold setBandOwner
  split
  · exact .refused _ nofun
  · exact .done _ (Change.band _).becomes

theorem State.settleEntry_becomes (s : State) (e : SettleEntry) : s.Becomes (s.settleEntry e).2 := by
  unfold State.settleEntry
  split
  · exact .refl
  rename_i z _
  split
  · exact .refl
  split
  · exact .refl
  split
  · exact .refl
  rename_i hbusy
  have hopen := ZoneState.busy_of_closed hbusy
  split
  · exact .refl
  split
  · exact .refl
  split
  · exact (Change.close z _ _ hopen).becomes
  split
  · exact .refl
  · exact (Change.arm z _ hopen).becomes

theorem State.settleEntries_becomes (s : State) (es : List SettleEntry) : s.Becomes (s.settleEntries es).2 := by
  induction es generalizing s with
  | nil => exact .refl
  | cons e es ih => exact (s.settleEntry_becomes e).trans (ih _)

theorem settleOwner_proper (body : SettleBody) : (settleOwner body s).Proper .bus s := by
  unfold settleOwner
  split
  · exact .refused _ nofun
  · split
    · exact .refused _ nofun
    · exact .done _ (s.settleEntries_becomes _)

theorem readSettlementOwner_proper (zb : Byte) : (readSettlementOwner zb s).Proper r s :=
  withZone_proper fun _ => .done _ .refl

theorem peekStatementOwner_proper (ab kb : Byte) : (peekStatementOwner ab kb s).Proper r s := by
  unfold peekStatementOwner
  split
  · exact .refused _ nofun
  · split
    · exact .refused _ nofun
    · exact .done _ .refl
    · exact .done _ .refl

theorem collectStatementOwner_proper (ab : Byte) : (collectStatementOwner ab s).Proper r s := by
  unfold collectStatementOwner
  split
  · exact .refused _ nofun
  rename_i a _
  split
  · exact .refused _ nofun
  have hledger : s.Reaches r (s.updLedger a (Ledger.collect (s.collected a))) := by
    refine (Change.ledgers _ fun _ b _ => ?_).becomes
    rw [upd_get]
    split
    · exact .inr rfl
    · exact .inl rfl
  dsimp only
  split
  · exact .done _ (hledger.trans (Change.house _).becomes)
  · exact .done _ hledger

/-! Channels and the converter. -/

theorem State.zoneObjection_ne_ok {cfg : ChannelConfig} {st : Status} (h : s.zoneObjection cfg = some st) : st ≠ .ok := by
  rintro rfl
  unfold State.zoneObjection at h
  split at h
  · cases h
  · split at h
    · cases h
    split at h
    · cases h
    split at h <;> cases h

theorem configureChannelOwner_proper (cb : Byte) (fields : Option ChannelConfig) : (configureChannelOwner cb fields s).Proper r s := by
  refine withChannel_proper fun c => ?_
  split
  · exact .refused _ nofun
  split
  · exact .refused _ nofun
  split
  · exact .refused _ nofun
  rename_i hhalves
  split
  · next hst => exact .refused _ (State.zoneObjection_ne_ok hst)
  · refine .done _ (State.updBoth_becomes s c _ _ ⟨.inl ?_, id, id, id, id⟩)
    have hzero : s.channels[c].halvesZero = true := by simpa using hhalves
    exact eq_of_beq (Bool.and_eq_true_iff.1 hzero).2

theorem startChannelOwner_proper (cb : Byte) : (startChannelOwner cb s).Proper r s := by
  refine withChannel_proper fun c => ?_
  split
  · exact .refused _ nofun
  split
  · exact .refused _ nofun
  · refine .done _ ((State.updBoth_becomes s c _ _ ⟨.inr ⟨rfl, rfl⟩, fun _ => ?_, fun _ => ?_, fun _ _ => rfl, fun _ _ => rfl⟩).trans
      (State.scanSetGrown_becomes _))
    · exact (by decide : 0 < 100000000)
    · exact ⟨fun _ => nofun, fun _ => rfl⟩

theorem pauseChannelOwner_proper (cb : Byte) : (pauseChannelOwner cb s).Proper r s := by
  refine withChannel_proper fun c => ?_
  split
  · rename_i hst
    refine .done _ (State.updChannel_becomes s c (fun r => { r with state := .paused })
      ⟨.inr ⟨rfl, rfl⟩, id, fun h => ?_, fun _ h => absurd (h : false = true) Bool.false_ne_true, id⟩)
    refine h.trans ⟨fun _ => nofun, fun _ hd => ?_⟩
    rw [hd] at hst
    cases hst
  · exact .refused _ nofun

theorem resumeChannelOwner_proper (cb : Byte) : (resumeChannelOwner cb s).Proper r s := by
  refine withChannel_proper fun c => ?_
  split
  · rename_i hst
    refine .done _ (State.updChannel_becomes s c _ ⟨.inr ⟨rfl, rfl⟩, id, fun h => ?_, fun _ _ => rfl, id⟩)
    have hnew : s.channels[c].status.channelState ≠ .disabled := by cases s.channels[c].status <;> decide
    have hold : s.channels[c].state ≠ .disabled := by rw [hst]; decide
    exact h.trans ⟨fun _ => hnew, fun _ => hold⟩
  · exact .refused _ nofun

theorem stopChannelOwner_proper (cb : Byte) : (stopChannelOwner cb s).Proper r s := by
  refine withChannel_proper fun c => ?_
  split
  · exact .done _ .refl
  · refine .done _ ((State.updBoth_becomes s c (fun r => { r with state := .disabled }) Input.stop ⟨.inr ⟨rfl, rfl⟩, id, fun _ => ?_,
      fun _ h => absurd (h : false = true) Bool.false_ne_true, fun _ h => absurd rfl h⟩).trans (State.scanSetShrunk_becomes _ c))
    exact ⟨nofun, fun h => absurd rfl h⟩

theorem readChannelOwner_proper (cb : Byte) : (readChannelOwner cb s).Proper r s :=
  withChannel_proper fun _ => .done _ .refl

theorem configureConverterOwner_proper (g : Word16) (h : Byte) : (configureConverterOwner g h s).Proper r s := by
  unfold configureConverterOwner
  split
  · exact .refused _ nofun
  · exact .done _ (s.withTcv_becomes _)

theorem setCalibrationOwner_proper (nb : Byte) (a : Word16) (b : BitVec 32) : (setCalibrationOwner nb a b s).Proper r s := by
  unfold setCalibrationOwner
  split
  · exact .refused _ nofun
  · split
    · exact .refused _ nofun
    · exact .done _ (s.withTcv_becomes _)

theorem readSensorOwner_proper (nb : Byte) : (readSensorOwner nb s).Proper r s := by
  unfold readSensorOwner
  split
  · exact .refused _ nofun
  · exact .done _ .refl

/-! Points and nodes. -/

theorem writePointOwner_proper (ib : Byte) (fields : Option Point) : (writePointOwner ib fields s).Proper r s := by
  refine withPoint_proper fun i => ?_
  split
  · exact .refused _ nofun
  split
  · exact .refused _ nofun
  · rename_i hconf
    exact .done _ (Change.point i _ fun _ => Bool.eq_false_iff.2 hconf).becomes

theorem clearPointOwner_proper (ib : Byte) : (clearPointOwner ib s).Proper r s :=
  withPoint_proper fun i => .done _ (Change.point i { s.points[i] with valid := false } fun h => absurd h Bool.false_ne_true).becomes

theorem readPointOwner_proper (ib : Byte) : (readPointOwner ib s).Proper r s :=
  withPoint_proper fun _ => .done _ .refl

theorem readNodeOwner_proper (sel : Byte) (key : BitVec 32) : (readNodeOwner sel key s).Proper r s := by
  unfold readNodeOwner
  split
  · exact .refused _ nofun
  · split
    · exact .refused _ nofun
    · exact .done _ .refl

theorem State.dispose_becomes (s : State) (d : Disposition) (e : NodeEntry) : s.Reaches r (s.dispose d e) := by
  cases d with
  | discard => exact s.withAtu_becomes _ rfl rfl
  | toPool => exact s.updZone_becomes _ _ (.of_values rfl rfl rfl)

theorem State.poolObjection_ne_ok {d : Disposition} {z : ZoneNo} {st : Status} (h : s.poolObjection d z = some st) : st ≠ .ok := by
  rintro rfl
  unfold State.poolObjection at h
  split at h
  · cases h
  · split at h
    · cases h
    split at h <;> cases h

theorem releaseNodeOwner_proper (x : Serial) (db : Byte) : (releaseNodeOwner x db s).Proper r s := by
  unfold releaseNodeOwner
  split
  · exact .refused _ nofun
  split
  · exact .refused _ nofun
  split
  · exact .refused _ nofun
  split
  · exact .refused _ nofun
  split
  · next hst => exact .refused _ (State.poolObjection_ne_ok hst)
  · exact .done _ ((State.dispose_becomes _ _ _).trans (State.updNode_becomes
      (f := fun y => { y with tally := 0, tallySaturated := false, state := .active }) (fun _ => rfl) fun _ _ _ _ _ _ => ⟨rfl, rfl⟩))

theorem forgetNodeOwner_proper (x : Serial) : (forgetNodeOwner x s).Proper r s := by
  unfold forgetNodeOwner
  split
  · exact .refused _ nofun
  split
  · exact .refused _ nofun
  split
  · exact .refused _ nofun
  · exact .waits (Change.atu { s.atu with op := some (.removal x .forget) } nofun rfl).becomes

/-! The bus. -/

theorem configureBusOwner_proper (fields : Option BusConfig) : (configureBusOwner fields s).Proper r s := by
  unfold configureBusOwner
  split
  · exact .refused _ nofun
  split
  · exact .refused _ nofun
  · exact .done _ (s.values_becomes _ ⟨rfl, rfl, rfl, id⟩)

theorem State.letTimePass_becomes {r : Reach} (s : State) : s.Reaches r s.letTimePass :=
  (s.updCycle_becomes _).trans (Change.freeUses _).becomes

theorem State.startBus_becomes (s : State) : s.Becomes s.startBus :=
  (s.completeHanded_becomes.trans (State.withAbm_becomes _ _)).trans (State.beginCycle_becomes _)

theorem busOnOwner_proper : (busOnOwner s).Proper .bus s := by
  unfold busOnOwner
  split
  · exact .refused _ nofun
  · exact .refused _ nofun
  · exact .done _ s.startBus_becomes

theorem State.requestStop_becomes (s : State) : s.Becomes s.requestStop := by
  unfold State.requestStop
  dsimp only
  split
  · exact s.withAbm_becomes _
  · exact (s.withAbm_becomes _).trans (State.busStop_becomes _)

theorem busOffOwner_proper : (busOffOwner s).Proper .bus s := by
  unfold busOffOwner
  split
  · exact .done _ s.letTimePass_becomes
  · exact .done _ s.letTimePass_becomes
  · exact .done _ (s.requestStop_becomes.trans (State.letTimePass_becomes _))

theorem startSweepOwner_proper : (startSweepOwner s).Proper .bus s := by
  unfold startSweepOwner
  split
  · exact .refused _ nofun
  split
  · exact .refused _ nofun
  · exact .done _ ((s.withAbm_becomes _).trans (State.letTimePass_becomes _))

/-! LINK. -/

theorem readEventsOwner_proper (sel : Byte) : (readEventsOwner sel s).Proper r s := by
  unfold readEventsOwner
  split
  · exact .done _ (s.withLink_becomes _)
  · exact .done _ .refl
  · exact .refused _ nofun

theorem setEventMaskOwner_proper (m : Word16) : (setEventMaskOwner m s).Proper r s := by
  unfold setEventMaskOwner
  split
  · exact .done _ (s.withLink_becomes _)
  · exact .refused _ nofun

theorem State.mapChannels_becomes (s : State) (f : Channel → Channel) (h : ∀ d i, ChannelChange d i (f d) i) :
    s.Reaches r (s.withChannels (mapChannels f s.channels)) := by
  refine (Change.channels (mapChannels f s.channels) s.inputs fun c => ?_).becomes
  show ChannelChange _ _ ((mapChannels f s.channels)[c.val]) _
  rw [mapChannels_get]
  exact h _ _

theorem unknownRequestOwner_proper (type : Byte) : (unknownRequestOwner type s).Proper r s := by
  refine .refused _ ?_
  split <;> nofun

theorem readCountersOwner_proper (g : Byte) : (readCountersOwner g s).Proper r s := by
  unfold readCountersOwner
  split
  · exact .done _ (s.withLink_becomes _)
  · exact .done _ (s.mapChannels_becomes _ fun d i => .of_values i rfl rfl id rfl rfl)
  · exact .done _ (s.letTimePass_becomes.trans (State.countBus_becomes _ fun _ => .zero))
  · exact .done _ (s.countAtu_becomes fun _ => .zero)
  · exact .refused _ nofun

end

/-! ### Every command -/

/-- How far a command's changes reach. -/
def reachOf : Instr → Reach
  | .mainSupplyLoss _ | .mainSupplyRise | .qualificationComplete | .retentionLoss | .resetAssert | .resetRelease | .coldStartEnd
  | .replySent => .supply
  | .busOn | .busOff | .startSweep | .settle _ | .beaconInstant | .beaconSent | .readTransactionStart
  | .reading .. | .here .. | .enrolled .. | .replyTimeout | .replyWindowClose | .attemptEnd | .acceptanceAct | .missAct | .learning
  | .setExpectedToggle | .nodeTableOpEnd _ => .bus
  | _ => .beside

/-- A request is taken by its owner, whose answer is proper, whatever the state (R173). -/
theorem exec_request {i : Instr} (h : isRequest i = true) : ∃ (type : Byte) (owner : State → Answer),
    (∀ s, exec i s = .next (s.take i type owner)) ∧ ∀ t, (owner t).Proper (reachOf i) t := by
  cases i with
  | identify => exact ⟨_, _, fun _ => rfl, fun _ => .done _ .refl⟩
  | readEvents => exact ⟨_, _, fun _ => rfl, fun _ => readEventsOwner_proper _⟩
  | setEventMask => exact ⟨_, _, fun _ => rfl, fun _ => setEventMaskOwner_proper _⟩
  | configureChannel => exact ⟨_, _, fun _ => rfl, fun _ => configureChannelOwner_proper _ _⟩
  | startChannel => exact ⟨_, _, fun _ => rfl, fun _ => startChannelOwner_proper _⟩
  | pauseChannel => exact ⟨_, _, fun _ => rfl, fun _ => pauseChannelOwner_proper _⟩
  | resumeChannel => exact ⟨_, _, fun _ => rfl, fun _ => resumeChannelOwner_proper _⟩
  | stopChannel => exact ⟨_, _, fun _ => rfl, fun _ => stopChannelOwner_proper _⟩
  | readChannel => exact ⟨_, _, fun _ => rfl, fun _ => readChannelOwner_proper _⟩
  | configureConverter => exact ⟨_, _, fun _ => rfl, fun _ => configureConverterOwner_proper _ _⟩
  | setCalibration => exact ⟨_, _, fun _ => rfl, fun _ => setCalibrationOwner_proper _ _ _⟩
  | readSensor => exact ⟨_, _, fun _ => rfl, fun _ => readSensorOwner_proper _⟩
  | defineZone => exact ⟨_, _, fun _ => rfl, fun _ => defineZoneOwner_proper _ _ _ _⟩
  | deleteZone => exact ⟨_, _, fun _ => rfl, fun _ => deleteZoneOwner_proper _⟩
  | addMember => exact ⟨_, _, fun _ => rfl, fun _ => addMemberOwner_proper _ _ _⟩
  | removeMember => exact ⟨_, _, fun _ => rfl, fun _ => removeMemberOwner_proper _ _⟩
  | readZone => exact ⟨_, _, fun _ => rfl, fun _ => readZoneOwner_proper _ _⟩
  | openAccount => exact ⟨_, _, fun _ => rfl, fun _ => openAccountOwner_proper _⟩
  | vacateAccount => exact ⟨_, _, fun _ => rfl, fun _ => vacateAccountOwner_proper _⟩
  | freeAccount => exact ⟨_, _, fun _ => rfl, fun _ => freeAccountOwner_proper _⟩
  | setPrices => exact ⟨_, _, fun _ => rfl, fun _ => setPricesOwner_proper _ _ _ _ _⟩
  | setBand => exact ⟨_, _, fun _ => rfl, fun _ => setBandOwner_proper _⟩
  | writePoint => exact ⟨_, _, fun _ => rfl, fun _ => writePointOwner_proper _ _⟩
  | clearPoint => exact ⟨_, _, fun _ => rfl, fun _ => clearPointOwner_proper _⟩
  | readPoint => exact ⟨_, _, fun _ => rfl, fun _ => readPointOwner_proper _⟩
  | configureBus => exact ⟨_, _, fun _ => rfl, fun _ => configureBusOwner_proper _⟩
  | busOn => exact ⟨_, _, fun _ => rfl, fun _ => busOnOwner_proper⟩
  | busOff => exact ⟨_, _, fun _ => rfl, fun _ => busOffOwner_proper⟩
  | startSweep => exact ⟨_, _, fun _ => rfl, fun _ => startSweepOwner_proper⟩
  | readNode => exact ⟨_, _, fun _ => rfl, fun _ => readNodeOwner_proper _ _⟩
  | releaseNode => exact ⟨_, _, fun _ => rfl, fun _ => releaseNodeOwner_proper _ _⟩
  | forgetNode => exact ⟨_, _, fun _ => rfl, fun _ => forgetNodeOwner_proper _⟩
  | settle => exact ⟨_, _, fun _ => rfl, fun _ => settleOwner_proper _⟩
  | readSettlement => exact ⟨_, _, fun _ => rfl, fun _ => readSettlementOwner_proper _⟩
  | peekStatement => exact ⟨_, _, fun _ => rfl, fun _ => peekStatementOwner_proper _ _⟩
  | collectStatement => exact ⟨_, _, fun _ => rfl, fun _ => collectStatementOwner_proper _⟩
  | readCounters => exact ⟨_, _, fun _ => rfl, fun _ => readCountersOwner_proper _⟩
  | factoryClear => exact ⟨_, _, fun _ => rfl, fun _ => .done _ .refl⟩
  | unknownRequest => exact ⟨_, _, fun _ => rfl, fun _ => unknownRequestOwner_proper _⟩
  | badFrame | linkOverrun | lineIdle | replySent | mainSupplyLoss | mainSupplyRise | qualificationComplete | retentionLoss | resetAssert
  | resetRelease | coldStartEnd | acceptedChange | inputSettling | noFlow | referenceGate | gateComplete | gateOverflow | beaconInstant
  | beaconSent | readTransactionStart | reading | here | enrolled | replyTimeout | replyWindowClose | attemptEnd | acceptanceAct | missAct
  | learning | setExpectedToggle | nodeTableOpEnd | senTakeZone | gather | fixed | consumption | area | standing | post | release | tick
  | byteReceived => exact (Bool.false_ne_true h).elim

/-- What a command can do: it answers a next state, which some changes lead to. -/
theorem exec_reaches (i : Instr) (s : State) : ∃ t, exec i s = .next t ∧ s.Reaches (reachOf i) t := by
  -- the events that do something under a condition
  have guarded {r : Reach} (c : Bool) (t : State) (h : c = true → s.Reaches r t) : s.Reaches r (if c then t else s) := by
    split
    · exact h (by assumption)
    · exact .refl
  by_cases hreq : isRequest i = true
  · obtain ⟨type, owner, hexec, hproper⟩ := exec_request hreq
    exact ⟨_, hexec s, s.take_becomes i type hproper⟩
  cases i with
  | badFrame => exact ⟨_, rfl, guarded _ _ fun _ => s.withLink_becomes _⟩
  | linkOverrun => exact ⟨_, rfl, guarded _ _ fun _ => s.withLink_becomes _⟩
  | lineIdle => exact ⟨_, rfl, guarded _ _ fun _ => s.withLink_becomes _⟩
  | byteReceived => exact ⟨_, rfl, guarded _ _ fun _ => s.withLink_becomes _⟩
  | replySent =>
    refine ⟨_, rfl, ?_⟩
    split
    · exact guarded _ _ (State.replySent_becomes _)
    · exact .refl
  | mainSupplyLoss usable => exact s.execMainSupplyLoss_becomes usable
  | mainSupplyRise => exact s.execMainSupplyRise_becomes
  | qualificationComplete => exact s.execQualificationComplete_becomes
  | retentionLoss => exact s.execRetentionLoss_becomes
  | resetAssert => exact s.execResetAssert_becomes
  | resetRelease => exact s.execResetRelease_becomes
  | coldStartEnd => exact s.execColdStartEnd_becomes
  | acceptedChange => exact ⟨_, rfl, s.candidateTick_becomes _ _⟩
  | inputSettling => exact ⟨_, rfl, s.candidateTick_becomes _ _⟩
  | noFlow =>
    refine ⟨_, rfl, ?_⟩
    split
    · exact s.tick_becomes _ _
    · exact .refl
  | tick => exact ⟨_, rfl, s.tick_becomes _ _⟩
  | referenceGate =>
    refine ⟨_, rfl, ?_⟩
    split
    · split
      · exact s.nextGate_becomes _
      · exact .refl
    · exact .refl
  | gateComplete =>
    refine ⟨_, rfl, ?_⟩
    split
    · split
      · exact s.sensorGateEnd_becomes _ _ _
      · exact .refl
    · exact .refl
  | gateOverflow =>
    refine ⟨_, rfl, ?_⟩
    split
    · split
      · exact s.nextGate_becomes _
      · exact s.sensorGateEnd_becomes _ _ _
    · exact .refl
  | beaconInstant => exact ⟨_, rfl, guarded _ _ fun _ => s.beginCycle_becomes⟩
  | beaconSent => exact ⟨_, rfl, guarded _ _ fun _ => s.beaconSent_becomes⟩
  | readTransactionStart =>
    refine ⟨_, rfl, ?_⟩
    split
    · exact guarded _ _ fun _ => s.pollNext_becomes _
    · exact .refl
  | reading => exact ⟨_, rfl, s.receive_becomes _ _⟩
  | here => exact ⟨_, rfl, s.receive_becomes _ _⟩
  | enrolled => exact ⟨_, rfl, s.receive_becomes _ _⟩
  | replyTimeout => exact ⟨_, rfl, s.receive_becomes _ _⟩
  | replyWindowClose => exact ⟨_, rfl, s.receive_becomes _ _⟩
  | attemptEnd =>
    refine ⟨_, rfl, ?_⟩
    split
    · exact guarded _ _ fun _ => s.attemptEnd_becomes _ _ _
    · exact .refl
  | acceptanceAct =>
    refine ⟨_, rfl, ?_⟩
    split
    · exact guarded _ _ fun _ => (s.hand_becomes none).trans (State.accepted_becomes _ _)
    · exact .refl
  | missAct =>
    refine ⟨_, rfl, ?_⟩
    split
    · exact guarded _ _ fun _ => (s.hand_becomes none).trans (State.missed_becomes _ _)
    · exact .refl
  | learning =>
    refine ⟨_, rfl, ?_⟩
    split
    · refine guarded _ _ fun hready => ((s.hand_becomes none).trans (State.learn_becomes _ _ _ ?_)).trans (State.stopOrProceed_becomes _)
      show s.opInProgress = false
      simpa using (Bool.and_eq_true_iff.1 hready).2
    · exact .refl
  | setExpectedToggle =>
    refine ⟨_, rfl, ?_⟩
    split
    · exact guarded _ _ fun _ => ((s.hand_becomes none).trans (State.setToggle_becomes _ _ _)).trans (State.stopOrProceed_becomes _)
    · exact .refl
  | nodeTableOpEnd =>
    refine ⟨_, rfl, ?_⟩
    split
    · exact guarded _ _ fun _ => State.opEnded_becomes _ (by assumption)
    · exact .refl
  | senTakeZone =>
    refine ⟨_, rfl, guarded _ _ fun h => (Change.take ?_).becomes⟩
    exact eq_of_beq (Bool.and_eq_true_iff.1 h).2
  | gather =>
    refine ⟨_, rfl, ?_⟩
    split
    · next hst => exact State.toStage_becomes hst _ _ nofun nofun
    · exact .refl
  | fixed =>
    refine ⟨_, rfl, ?_⟩
    split
    · next hst _ => exact State.toStage_becomes hst _ _ nofun nofun
    · exact .refl
  | consumption =>
    refine ⟨_, rfl, ?_⟩
    split
    · next hst _ _ => exact State.toStage_becomes hst _ _ nofun nofun
    · exact .refl
  | area =>
    refine ⟨_, rfl, ?_⟩
    split
    · next hst _ _ => exact State.toStage_becomes hst _ _ nofun nofun
    · exact .refl
  | standing =>
    refine ⟨_, rfl, ?_⟩
    split
    · next hst _ => exact State.toStage_becomes hst _ _ nofun nofun
    · exact .refl
  | post =>
    refine ⟨_, rfl, ?_⟩
    split
    · next z g f c a hst _ _ _ _ =>
        refine (s.postSettlement_becomes z g f c a).trans (Change.stage .release s.sen.scratch ?_ nofun).becomes
        rw [State.postSettlement_sen, (State.atStage_eq_some hst).2.1]
        nofun
    · exact .refl
  | release =>
    refine ⟨_, rfl, ?_⟩
    split
    · rename_i hst
      exact (Change.release _ (State.atStage_eq_some hst).2.2).becomes
    · exact .refl
  | _ => exact absurd rfl hreq

end Sys2Proof.Machine

/-! SUPPORT and PROOFS. The state after a cold start: its values, and that it has every invariant. -/

namespace Sys2Proof.Machine

/-! ### The state after a cold start -/

theorem State.reset_account (a : AccountNo) : State.reset.accounts[a] = if a = 0 then .opened else .free := by
  show ((Vector.replicate 128 AccountState.free).set 0 .opened)[a.val] = _
  simp only [Vector.getElem_set, Vector.getElem_replicate, Fin.ext_iff, Fin.val_zero, eq_comm (a := 0)]

theorem State.reset_zone (z : ZoneNo) : State.reset.zones[z] = .cold := Vector.getElem_replicate ..
theorem State.reset_record (z : ZoneNo) : State.reset.records[z] = .cold := Vector.getElem_replicate ..
theorem State.reset_ledger (a : AccountNo) : State.reset.ledgers[a] = .cold a := Vector.getElem_ofFn ..
theorem State.reset_channel (c : ChannelNo) : State.reset.channels[c] = .cold := Vector.getElem_replicate ..
theorem State.reset_input (c : ChannelNo) : State.reset.inputs[c] = .cold := Vector.getElem_replicate ..
theorem State.reset_point (i : PointNo) : State.reset.points[i] = .cold := Vector.getElem_replicate ..
theorem State.reset_calibration (n : SensorNo) : State.reset.tcv.calibration[n] = ⟨25974, -25974⟩ := by revert n; decide
theorem State.reset_last (n : SensorNo) : State.reset.tcv.last[n] = ⟨.none, false, none, none, none, 0, 0⟩ := by revert n; decide

theorem State.reset_queueSound : State.reset.QueueSound := by
  refine ⟨.nil, fun z => ?_, fun z => ?_, by decide⟩
  all_goals
    rw [State.reset_zone]
    exact ⟨nofun, nofun⟩

theorem State.reset_tableSound : State.reset.TableSound := ⟨.nil, Nat.zero_le _, nofun⟩

theorem State.reset_quarantineSound : State.reset.QuarantineSound := nofun

theorem State.reset_accountsSound : State.reset.AccountsSound := by
  refine ⟨State.reset_account 0, fun a _ => ?_⟩
  rw [State.reset_ledger]
  rfl

theorem State.reset_membersSound : State.reset.MembersSound := by
  intro z
  rw [State.reset_zone]
  exact ⟨.nil, by decide, nofun⟩

theorem State.reset_pointsSound : State.reset.PointsSound := by
  intro i j _ hi
  rw [State.reset_point] at hi
  cases hi

theorem State.reset_closingSound : State.reset.ClosingSound := by
  refine ⟨fun z _ => ?_, fun c _ => ?_⟩
  · rw [State.reset_zone]
    exact ⟨rfl, nofun⟩
  · rw [State.reset_channel]
    rfl

theorem State.reset_carryBelow : State.reset.CarryBelow := by
  intro c
  rw [State.reset_channel]
  decide

theorem State.reset_inputsFollow : State.reset.InputsFollow := by
  intro c
  rw [State.reset_channel, State.reset_input]
  decide

theorem State.reset_statesMirror : State.reset.StatesMirror := by
  intro c h
  rw [State.reset_channel] at h
  cases h

theorem State.reset_handoversFollow : State.reset.HandoversFollow := by
  intro c h
  rw [State.reset_input] at h
  exact absurd rfl h

theorem State.reset_supplySound : State.reset.SupplySound := by
  unfold State.SupplySound
  decide

theorem State.reset_quiescent : State.reset.Quiescent := fun h => absurd rfl h

theorem State.reset_busSound : State.reset.BusSound := by
  refine ⟨Nat.zero_le _, nofun, fun _ => rfl, nofun, nofun, fun _ => ⟨rfl, rfl, rfl, fun z => ?_⟩, fun h => absurd rfl h⟩
  rw [State.reset_zone]
  decide

/-- Settles O60. -/
theorem invariantsAtReset : Obligations.InvariantsAtReset :=
  ⟨State.reset_queueSound, State.reset_tableSound, State.reset_quarantineSound, State.reset_accountsSound, State.reset_membersSound,
    State.reset_pointsSound, State.reset_closingSound, State.reset_carryBelow, State.reset_inputsFollow, State.reset_statesMirror,
    State.reset_handoversFollow, State.reset_supplySound, State.reset_quiescent, State.reset_busSound⟩

/-- Settles O5. The tables hold one value each, which the model names; everything else is a field of the reset state. -/
theorem resetValues : Obligations.ResetValues := by
  unfold Obligations.ResetValues
  refine ⟨State.reset_account, State.reset_zone, rfl, rfl, rfl, rfl, State.reset_record, ?ledgers, rfl, ?channels, State.reset_input, rfl, rfl, rfl,
    rfl, fun n => ⟨State.reset_calibration n, State.reset_last n⟩, rfl, rfl, State.reset_point, rfl, ?link, rfl, rfl, rfl⟩
  case ledgers =>
    rintro a _ _ rfl rfl
    exact State.reset_ledger a
  case channels =>
    rintro c _ rfl
    exact State.reset_channel c
  case link =>
    rintro _ rfl
    rfl

end Sys2Proof.Machine

/-! SUPPORT and PROOFS. The invariants of the part that every change keeps, and with them every step. -/

namespace Sys2Proof.Machine

/-! ### From changes to steps -/

theorem set_get {α : Type} {n : Nat} (v : Vector α n) (i j : Fin n) (x : α) : (v.set i x)[j] = if i = j then x else v[j] :=
  upd_get v i j fun _ => x

theorem set_same {α : Type} {n : Nat} (v : Vector α n) (i : Fin n) (x : α) : (v.set i x)[i] = x := by rw [set_get, if_pos rfl]

/-- The rest of the queue of commands aside, a step makes changes. -/
theorem step_becomes {s t : State} (h : step s = .next t) : ∃ k rest, (s.withPending rest).Reaches k t := by
  unfold step at h
  split at h
  · cases h
    exact ⟨.beside, s.pending, .refl⟩
  · rename_i i rest _
    obtain ⟨u, hu, hbecomes⟩ := exec_reaches i (s.withPending rest)
    cases hu.symm.trans h
    exact ⟨_, rest, hbecomes⟩

/-- What every change keeps is kept by every step. -/
theorem kept_by_step {Inv : State → Prop} (hpending : ∀ (s : State) (q : List Instr), Inv s → Inv (s.withPending q))
    (hchange : ∀ (s t : State) (k : Reach), Change s k t → Inv s → Inv t) {s t : State} (h : step s = .next t) (hs : Inv s) : Inv t := by
  obtain ⟨_, rest, hbecomes⟩ := step_becomes h
  generalize hu : s.withPending rest = u at hbecomes
  have hinv : Inv u := hu ▸ hpending s rest hs
  clear h
  induction hbecomes with
  | refl => exact hinv
  | tail _ hc ih =>
    obtain ⟨j, -, hc⟩ := hc
    exact hchange _ _ j hc ih

/-- A taking touches the zones, the queue and the engine. -/
theorem State.takeZone_frame (s : State) :
    s.takeZone = ((s.withZones s.takeZone.zones).withQueue s.takeZone.queue).withSen s.takeZone.sen := by
  unfold State.takeZone
  split <;> rfl

/-- The engine's stop touches the zones, the queue and the engine. -/
theorem State.stopSen_frame (s : State) : s.stopSen = ((s.withZones s.stopSen.zones).withQueue s.stopSen.queue).withSen s.stopSen.sen := by
  unfold State.stopSen
  split <;> rfl

/-- The end of a Node Table operation touches the table and the operation. -/
theorem State.tableChanged_frame (s : State) (op : NodeOp) :
    s.tableChanged op = (s.withAtu { s.atu with op := none }).withNodes (s.tableChanged op).nodes := by
  cases op <;> rfl

section
variable {k : Reach} {s t : State}

/-! ### The Node Table (R148, R150, R162) -/

theorem Change.tableSound (h : Change s k t) (hs : s.TableSound) : t.TableSound := by
  obtain ⟨hord, hlen, hins⟩ := hs
  cases h with
  | atu u h _ =>
    refine ⟨hord, hlen, fun x hx => ?_⟩
    rcases h x hx with hold | hnew
    · exact hins x hold
    · exact hnew
  | nodes l h h' =>
    have hlength : l.length = s.nodes.length := by simpa using congrArg List.length h
    refine ⟨?_, hlength ▸ hlen, fun x hx => ⟨hlength ▸ (hins x hx).1, fun e he => ?_⟩⟩
    · have hord' : nodesOrdered s.nodes := List.pairwise_map.2 hord
      exact List.pairwise_map.1 (h ▸ hord' : (l.map (·.serial)).Pairwise (· < ·))
    · obtain ⟨y, hy, hye⟩ := List.mem_map.1 (h ▸ List.mem_map_of_mem he : e.serial ∈ s.nodes.map (·.serial))
      exact hye ▸ (hins x hx).2 y hy
  | table op hop =>
    cases op with
    | insertion x =>
      obtain ⟨hroom, habsent⟩ := hins x hop
      exact ⟨pairwise_insertNode _ _ hord habsent, (length_insertNode _ _).le.trans hroom, nofun⟩
    | removal x why => exact ⟨hord.sublist List.filter_sublist, (List.length_filter_le _ _).trans hlen, nofun⟩
  | stopSen =>
    rw [State.stopSen_frame]
    exact ⟨hord, hlen, hins⟩
  | take =>
    rw [State.takeZone_frame]
    exact ⟨hord, hlen, hins⟩
  | coldStart => exact ⟨.nil, Nat.zero_le _, nofun⟩
  | _ => exact ⟨hord, hlen, hins⟩

/-- The tallies are kept in an ordered table: an act finds its entry by the serial. -/
theorem Change.quarantineSound (h : Change s k t) (hord : s.TableSound) (hs : s.QuarantineSound) : t.QuarantineSound := by
  cases h with
  | nodes l h h' => exact h' (List.pairwise_map.2 hord.1) hs
  | table op hop =>
    cases op with
    | insertion x =>
      intro e he
      rcases (mem_insertNode ..).1 he with rfl | he
      · exact fun _ => ⟨rfl, rfl⟩
      · exact hs e he
    | removal x why => exact fun e he => hs e (List.mem_of_mem_filter he)
  | stopSen =>
    rw [State.stopSen_frame]
    exact hs
  | take =>
    rw [State.takeZone_frame]
    exact hs
  | coldStart => nofun
  | _ => exact hs

/-- Settles O57. The tallies need the order, so the two are kept together. -/
theorem tableStaysSound : Obligations.TableStaysSound := by
  unfold Obligations.TableStaysSound
  intro s t htable hstep
  refine ⟨kept_by_step (fun _ _ h => h) (fun _ _ _ => Change.tableSound) hstep htable, fun hq => ?_⟩
  exact (kept_by_step (Inv := fun s => s.TableSound ∧ s.QuarantineSound) (fun _ _ h => h)
    (fun _ _ _ hc h => ⟨hc.tableSound h.1, hc.quarantineSound h.1 h.2⟩) hstep ⟨htable, hq⟩).2

/-! ### Accounts, member lists and points (R1, R11, R164) -/

theorem Change.accountsSound (h : Change s k t) (hs : s.AccountsSound) : t.AccountsSound := by
  obtain ⟨h0, hfree⟩ := hs
  cases h with
  | account a st ha hst =>
    refine ⟨?_, fun b hb => ?_⟩
    · show (s.accounts.set a st)[(0 : AccountNo)] = _
      rw [set_get, if_neg ha]
      exact h0
    · change (s.accounts.set a st)[b] = .free at hb
      rw [set_get] at hb
      split at hb
      · next hab => exact hab ▸ (hst hb).1
      · exact hfree b hb
  | ledgers v hv =>
    refine ⟨h0, fun a ha => ?_⟩
    rcases hv h0 a ha with hsame | hzero
    · exact hsame.trans (hfree a ha)
    · exact hzero
  | stopSen =>
    rw [State.stopSen_frame]
    exact ⟨h0, hfree⟩
  | take =>
    rw [State.takeZone_frame]
    exact ⟨h0, hfree⟩
  | table op =>
    rw [State.tableChanged_frame]
    exact ⟨h0, hfree⟩
  | coldStart => exact State.reset_accountsSound
  | _ => exact ⟨h0, hfree⟩

/-- A member list keeps what R11 asks when an account moves that it does not hold, or moves to another state than FREE. -/
theorem membersSound_account {accounts : Vector AccountState 128} {ms : List Member} {a : AccountNo} {st : AccountState}
    (h : st = .free → ∀ m ∈ ms, m.account ≠ a) (hs : membersSound accounts ms) : membersSound (accounts.set a st) ms := by
  obtain ⟨hord, hlen, hall⟩ := hs
  refine ⟨hord, hlen, fun m hm => ?_⟩
  obtain ⟨hm0, hmfree, harea⟩ := hall m hm
  refine ⟨hm0, ?_, harea⟩
  rw [set_get]
  split
  · next heq => exact fun hst => h hst m hm heq.symm
  · exact hmfree

/-- What a zone's update makes of the member lists. -/
theorem membersSound_set {accounts : Vector AccountState 128} {zones : Vector Zone 16} {z : ZoneNo} {r : Zone}
    (hr : membersSound accounts zones[z].members → membersSound accounts r.members)
    (hs : ∀ y : ZoneNo, membersSound accounts zones[y].members) (y : ZoneNo) : membersSound accounts (zones.set z r)[y].members := by
  rw [set_get]
  split
  · exact hr (hs z)
  · exact hs y

theorem Change.membersSound (h : Change s k t) (hs : s.MembersSound) : t.MembersSound := by
  have hs' (y : ZoneNo) : Machine.membersSound s.accounts s.zones[y].members := hs y
  have same {z : ZoneNo} {f : Member → Member} (hf : ∀ m, (f m).account = m.account ∧ (f m).area = m.area) :
      Machine.membersSound s.accounts s.zones[z].members → Machine.membersSound s.accounts (s.zones[z].members.map f) := membersSound_map hf
  cases h with
  | account a st h0 h =>
    refine fun y => membersSound_account (fun hst m hm hma => ?_) (hs y)
    exact Bool.false_ne_true (((h hst).2 y).symm.trans ((Zone.hasMember_iff _ _).2 ⟨m, hm, hma⟩))
  | zone z r h => exact membersSound_set h.members hs'
  | arm z terms h => exact membersSound_set (r := { s.zones[z] with state := .armed, armed := terms }) id hs'
  | close z cause terms h => exact membersSound_set (r := s.zones[z].close cause s.abm.cycleNumber terms) (same fun _ => ⟨rfl, rfl⟩) hs'
  | take =>
    unfold State.takeZone
    split
    · exact hs
    · exact membersSound_set id hs'
  | release z h => exact membersSound_set (same fun _ => ⟨rfl, rfl⟩) hs'
  | stopSen =>
    unfold State.stopSen
    split
    · exact membersSound_set id hs'
    · exact hs
  | table op =>
    rw [State.tableChanged_frame]
    exact hs
  | coldStart => exact State.reset_membersSound
  | _ => exact hs

theorem filtersOverlap_comm (a b : Option ZoneNo) : filtersOverlap a b = filtersOverlap b a := by
  cases a <;> cases b <;> simp [filtersOverlap, eq_comm]

theorem Change.pointsSound (h : Change s k t) (hs : s.PointsSound) : t.PointsSound := by
  cases h with
  | point i p h =>
    -- the written point against one that stands
    have new (j : PointNo) (hij : j ≠ i) (hp : p.valid = true) (hj : s.points[j].valid = true) (hser : s.points[j].serial = p.serial) :
        filtersOverlap s.points[j].zoneFilter p.zoneFilter = false := by
      have hconf := h hp
      simp only [State.pointConflict, List.any_eq_false, mem_allPoints, true_implies] at hconf
      have hj' := hconf j
      simp only [bne_iff_ne, ne_eq, hij, not_false_iff, hj, hser, beq_self_eq_true, Bool.and_eq_true, true_and] at hj'
      simpa using hj'
    intro a b hab ha hb hser
    change (s.points.set i p)[a].valid = true at ha
    change (s.points.set i p)[b].valid = true at hb
    change (s.points.set i p)[a].serial = (s.points.set i p)[b].serial at hser
    show filtersOverlap (s.points.set i p)[a].zoneFilter (s.points.set i p)[b].zoneFilter = false
    rw [set_get] at ha hser ⊢
    rw [set_get] at hb hser ⊢
    split at ha
    · next hia =>
      subst hia
      rw [if_pos rfl] at hser ⊢
      rw [if_neg hab] at hb hser ⊢
      exact filtersOverlap_comm _ _ ▸ new b (Ne.symm hab) ha hb hser.symm
    · next hia =>
      rw [if_neg hia] at hser ⊢
      split at hb
      · next hib =>
        subst hib
        rw [if_pos rfl] at hser ⊢
        exact new a hab hb ha hser
      · next hib =>
        rw [if_neg hib] at hser ⊢
        exact hs a b hab ha hb hser
  | stopSen =>
    rw [State.stopSen_frame]
    exact hs
  | take =>
    rw [State.takeZone_frame]
    exact hs
  | table op =>
    rw [State.tableChanged_frame]
    exact hs
  | coldStart => exact State.reset_pointsSound
  | _ => exact hs

/-! ### Channels and inputs (R65, R77, R87, R92) -/

/-- What a close and a release leave of a channel: every item but its halves. -/
theorem Change.channel_of (h : Change s k t) (c : ChannelNo) :
    ChannelChange s.channels[c] s.inputs[c] t.channels[c] t.inputs[c] ∨
      (∃ opn closing, t.channels[c] = { s.channels[c] with opn := opn, closing := closing } ∧ t.inputs[c] = s.inputs[c]) ∨
      (t.channels[c] = .cold ∧ t.inputs[c] = .cold) := by
  have same : ChannelChange s.channels[c] s.inputs[c] s.channels[c] s.inputs[c] := .refl ..
  have mapped (f : Channel → Channel) (hf : ∀ d, ∃ opn closing, f d = { d with opn := opn, closing := closing }) :
      ∃ opn closing, (mapChannels f s.channels)[c] = { s.channels[c] with opn := opn, closing := closing } := by
    obtain ⟨o, k, h⟩ := hf s.channels[c]
    exact ⟨o, k, (mapChannels_get f s.channels c).trans h⟩
  cases h with
  | channels v w h => exact .inl (h c)
  | close z cause terms h =>
    obtain ⟨o, k, h⟩ := mapped (fun d => if d.zone = some z then d.close else d) fun d => by
      split
      · exact ⟨_, _, rfl⟩
      · exact ⟨_, _, rfl⟩
    exact .inr (.inl ⟨o, k, h, rfl⟩)
  | release z h =>
    obtain ⟨o, k, h⟩ := mapped (fun d => if d.zone = some z then { d with closing := .zero } else d) fun d => by
      split
      · exact ⟨_, _, rfl⟩
      · exact ⟨_, _, rfl⟩
    exact .inr (.inl ⟨o, k, h, rfl⟩)
  | stopSen =>
    rw [State.stopSen_frame]
    exact .inl same
  | take =>
    rw [State.takeZone_frame]
    exact .inl same
  | table op =>
    rw [State.tableChanged_frame]
    exact .inl same
  | coldStart => exact .inr (.inr ⟨State.reset_channel c, State.reset_input c⟩)
  | _ => exact .inl same

theorem Change.carryBelow (h : Change s k t) (hs : s.CarryBelow) : t.CarryBelow := by
  intro c
  rcases h.channel_of c with hc | ⟨_, _, hc, -⟩ | ⟨hc, -⟩
  · exact hc.carry (hs c)
  · exact hc ▸ hs c
  · exact hc ▸ (by decide : Channel.cold.carry < 100000000)

theorem Change.inputsFollow (h : Change s k t) (hs : s.InputsFollow) : t.InputsFollow := by
  intro c
  rcases h.channel_of c with hc | ⟨_, _, hc, hi⟩ | ⟨hc, hi⟩
  · exact hc.runs (hs c)
  · rw [hc, hi]
    exact hs c
  · rw [hc, hi]
    decide

theorem Change.statesMirror (h : Change s k t) (hs : s.StatesMirror) : t.StatesMirror := by
  intro c
  rcases h.channel_of c with hc | ⟨_, _, hc, -⟩ | ⟨hc, -⟩
  · exact hc.mirror (hs c)
  · rw [hc]
    exact hs c
  · rw [hc]
    decide

theorem Change.handoversFollow (h : Change s k t) (hs : s.HandoversFollow) : t.HandoversFollow := by
  intro c
  rcases h.channel_of c with hc | ⟨_, _, -, hi⟩ | ⟨-, hi⟩
  · exact hc.handover (hs c)
  · rw [hi]
    exact hs c
  · rw [hi]
    decide

/-! ### Closing halves (R13, R81) -/

/-- The closing half of a zone and of its members is empty outside a settlement. -/
def Zone.closingSound (z : Zone) : Prop := z.state.closed = false → z.closing = .zero ∧ ∀ m ∈ z.members, m.closingW = .zero

/-- The closing half of a channel is empty where its zone is outside a settlement. -/
def Channel.closingSound (zones : Vector Zone 16) (c : Channel) : Prop :=
  (∀ z : ZoneNo, c.zone = some z → zones[z].state.closed = false) → c.closing = .zero

theorem Zone.closingSound_of_closed {z : Zone} (h : z.state.closed = true) : z.closingSound :=
  fun hn => absurd (h.symm.trans hn) nofun

/-- A change of a zone that does not take it out of a settlement. -/
theorem State.ClosingSound.set {z : ZoneNo} {r : Zone} (hr : s.zones[z].closingSound → r.closingSound)
    (hst : r.state.closed = false → s.zones[z].state.closed = false) (hs : s.ClosingSound) :
    (∀ y : ZoneNo, (s.zones.set z r)[y].closingSound) ∧ ∀ c : ChannelNo, s.channels[c].closingSound (s.zones.set z r) := by
  obtain ⟨hz, hc⟩ := hs
  refine ⟨fun y => ?_, fun c hclosed => hc c fun y hy => ?_⟩
  · rw [set_get]
    split
    · exact hr (hz z)
    · exact hz y
  · have hopen := hclosed y hy
    rw [set_get] at hopen
    split at hopen
    · next hzy => exact hzy ▸ hst hopen
    · exact hopen

theorem ZoneChange.closingSound {accounts : Vector AccountState 128} {old new : Zone} (h : ZoneChange accounts old new) :
    old.closingSound → new.closingSound := by
  intro hs hnew
  have hold : old.state.closed = false := h.state.elim (fun k => k ▸ hnew) fun k => k.1
  obtain ⟨hcl, hms⟩ := hs hold
  refine ⟨h.closing.elim (fun k => k.trans hcl) id, fun m hm => ?_⟩
  rcases h.weights m hm with hzero | ⟨x, hx, hxm⟩
  · exact hzero
  · exact hxm ▸ hms x hx

theorem Change.closingSound (h : Change s k t) (hs : s.ClosingSound) : t.ClosingSound := by
  have toClosed {z : ZoneNo} {r : Zone} (hr : r.state.closed = true) :=
    State.ClosingSound.set (z := z) (r := r) (fun _ => Zone.closingSound_of_closed hr) (fun hn => absurd (hr.symm.trans hn) nofun) hs
  cases h with
  | zone z r h =>
    exact State.ClosingSound.set h.closingSound (fun hn => h.state.elim (fun k => k ▸ hn) fun k => k.1) hs
  | arm z terms h => exact State.ClosingSound.set (r := { s.zones[z] with state := .armed, armed := terms }) (fun hz _ => hz h) (fun _ => h) hs
  | close z cause terms h =>
    obtain ⟨hz, hc⟩ := toClosed (z := z) (r := s.zones[z].close cause s.abm.cycleNumber terms) rfl
    refine ⟨hz, fun c => ?_⟩
    rw [State.closeZone_channel]
    split
    · next hcz =>
      intro hopen
      have hz' := hopen z hcz
      rw [State.closeZone_zone] at hz'
      cases hz'
    · exact hc c
  | take =>
    unfold State.takeZone
    split
    · exact hs
    · next z _ _ => exact toClosed (r := { s.zones[z] with state := .settling }) rfl
  | release z h =>
    refine ⟨fun y => ?_, fun c => ?_⟩
    · show Zone.closingSound (upd s.zones z _)[y]
      rw [upd_get]
      split
      · refine fun _ => ⟨rfl, fun m hm => ?_⟩
        obtain ⟨x, -, rfl⟩ := List.mem_map.1 hm
        rfl
      · exact hs.1 y
    · show Channel.closingSound (upd s.zones z _) (mapChannels _ s.channels)[c.val]
      rw [mapChannels_get]
      split
      · exact fun _ => rfl
      · next hcz =>
        refine fun hopen => hs.2 c fun y hy => ?_
        have hne : z ≠ y := by
          rintro rfl
          exact hcz hy
        have hy' := hopen y hy
        rwa [upd_other _ _ hne] at hy'
  | stopSen =>
    unfold State.stopSen
    split
    · next z _ => exact toClosed (r := { s.zones[z] with state := .queued }) rfl
    · exact hs
  | channels v w h =>
    refine ⟨hs.1, fun c hopen => ?_⟩
    rcases (h c).closing with hzero | ⟨hsame, hzone⟩
    · exact hzero
    · exact hsame.trans (hs.2 c fun y hy => hopen y (hzone.trans hy))
  | table op =>
    rw [State.tableChanged_frame]
    exact hs
  | coldStart => exact State.reset_closingSound
  | _ => exact hs

/-- Settles O58. -/
theorem recordsStaySound : Obligations.RecordsStaySound := by
  unfold Obligations.RecordsStaySound
  intro s t hstep
  exact ⟨kept_by_step (fun _ _ h => h) (fun _ _ _ => Change.accountsSound) hstep,
    kept_by_step (fun _ _ h => h) (fun _ _ _ => Change.membersSound) hstep,
    kept_by_step (fun _ _ h => h) (fun _ _ _ => Change.pointsSound) hstep,
    kept_by_step (fun _ _ h => h) (fun _ _ _ => Change.closingSound) hstep,
    kept_by_step (fun _ _ h => h) (fun _ _ _ => Change.carryBelow) hstep,
    kept_by_step (fun _ _ h => h) (fun _ _ _ => Change.inputsFollow) hstep,
    kept_by_step (fun _ _ h => h) (fun _ _ _ => Change.statesMirror) hstep,
    kept_by_step (fun _ _ h => h) (fun _ _ _ => Change.handoversFollow) hstep⟩

/-! ### The settlement queue (R22 to R24) -/

/-- QueueSound of a state whose zones differ from `s` in the one zone `z`. -/
theorem State.QueueSound.set {z : ZoneNo} {r : Zone} (hs : s.QueueSound) {queue : List ZoneNo} {sen : Sen}
    (hnodup : queue.Nodup) (hmem : ∀ y, z ≠ y → (y ∈ queue ↔ y ∈ s.queue)) (hz : z ∈ queue ↔ r.state = .queued)
    (hother : ∀ y, z ≠ y → (sen.zone = some y ↔ s.sen.zone = some y)) (hsen : sen.zone = some z ↔ r.state = .settling)
    (hidle : sen.zone = none ↔ sen.stage = .idle) : (((s.withZones (s.zones.set z r)).withQueue queue).withSen sen).QueueSound := by
  obtain ⟨-, hq, hw, -⟩ := hs
  refine ⟨hnodup, fun y => ?_, fun y => ?_, hidle⟩
  · show y ∈ queue ↔ (s.zones.set z r)[y].state = _
    rw [set_get]
    split
    · next h => exact h ▸ hz
    · next h => exact (hmem y h).trans (hq y)
  · show sen.zone = some y ↔ (s.zones.set z r)[y].state = _
    rw [set_get]
    split
    · next h => exact h ▸ hsen
    · next h => exact (hother y h).trans (hw y)

/-- QueueSound is kept when a zone keeps its place in the settlement or stays outside. -/
theorem State.QueueSound.set_state {z : ZoneNo} {r : Zone} (hs : s.QueueSound)
    (hst : ∀ st : ZoneState, st.closed = true → (s.zones[z].state = st ↔ r.state = st)) : (s.withZones (s.zones.set z r)).QueueSound := by
  obtain ⟨hnodup, hq, hw, hidle⟩ := id hs
  exact hs.set (queue := s.queue) (sen := s.sen) hnodup (fun _ _ => .rfl) ((hq z).trans (hst _ rfl)) (fun _ _ => .rfl)
    ((hw z).trans (hst _ rfl)) hidle

theorem Change.queueSound (h : Change s k t) (hs : s.QueueSound) : t.QueueSound := by
  have ⟨hnodup, hq, hw, hidle⟩ := hs
  cases h with
  | zone z r h =>
    exact hs.set_state fun st hcl => h.state.elim (fun hsame => by rw [hsame]) fun hopen =>
      ⟨fun hst => absurd (hst ▸ hopen.1) (hcl ▸ nofun), fun hst => absurd (hst ▸ hopen.2) (hcl ▸ nofun)⟩
  | arm z terms h =>
    refine hs.set_state (r := { s.zones[z] with state := .armed, armed := terms }) fun st hcl => ⟨fun hst => ?_, fun hst => ?_⟩
    · exact absurd (hst ▸ h) (hcl ▸ nofun)
    · cases hst
      cases hcl
  | close z cause terms h =>
    have hnot (st : ZoneState) (hcl : st.closed = true) : s.zones[z].state ≠ st := by
      rintro rfl
      exact absurd (h.symm.trans hcl) nofun
    have hfresh : z ∉ s.queue := fun hz => hnot _ rfl ((hq z).1 hz)
    refine State.QueueSound.set (r := s.zones[z].close cause s.abm.cycleNumber terms) (queue := s.queue ++ [z]) (sen := s.sen) hs
      ?_ (fun y hy => ?_) ?_ (fun _ _ => .rfl) ?_ hidle
    · exact List.nodup_append.2 ⟨hnodup, List.nodup_singleton z, fun a ha b hb => by
        rw [List.mem_singleton.1 hb]
        rintro rfl
        exact hfresh ha⟩
    · simp [Ne.symm hy]
    · exact ⟨fun _ => rfl, fun _ => by simp⟩
    · exact ⟨fun hz => absurd ((hw z).1 hz) (hnot _ rfl), nofun⟩
  | take h =>
    unfold State.takeZone
    split
    · exact hs
    · next z rest hqueue =>
      obtain ⟨hz, hrest⟩ := List.nodup_cons.1 (hqueue ▸ hnodup)
      have hnone := hidle.2 h
      refine State.QueueSound.set (queue := rest) hs hrest (fun y hy => ?_) ⟨fun k => absurd k hz, nofun⟩ (fun y hy => ?_) ⟨fun _ => rfl, fun _ => rfl⟩ ?_
      · rw [hqueue]
        simp [Ne.symm hy]
      · rw [hnone]
        exact ⟨fun k => absurd (Option.some.inj k) hy, nofun⟩
      · refine ⟨nofun, fun k => ?_⟩
        dsimp only at k
        split at k <;> cases k
  | stage st x h h' => exact ⟨hnodup, hq, hw, ⟨fun k => absurd (hidle.1 k) h, fun k => absurd k h'⟩⟩
  | release z h =>
    have hfresh : z ∉ s.queue := fun hz => absurd (((hq z).1 hz).symm.trans ((hw z).1 h)) nofun
    refine State.QueueSound.set (queue := s.queue) (sen := .cold) hs hnodup (fun _ _ => .rfl) ⟨fun k => absurd k hfresh, nofun⟩ (fun y hy => ?_)
      ⟨nofun, nofun⟩ ⟨fun _ => rfl, fun _ => rfl⟩
    rw [h]
    exact ⟨nofun, fun k => absurd (Option.some.inj k) hy⟩
  | stopSen =>
    unfold State.stopSen
    split
    · next z h =>
      have hfresh : z ∉ s.queue := fun hz => absurd (((hq z).1 hz).symm.trans ((hw z).1 h)) nofun
      refine State.QueueSound.set (queue := z :: s.queue) (sen := .cold) hs (List.nodup_cons.2 ⟨hfresh, hnodup⟩) (fun y hy => ?_)
        ⟨fun _ => rfl, fun _ => List.mem_cons_self⟩ (fun y hy => ?_) ⟨nofun, nofun⟩ ⟨fun _ => rfl, fun _ => rfl⟩
      · simp [Ne.symm hy]
      · rw [h]
        exact ⟨nofun, fun k => absurd (Option.some.inj k) hy⟩
    · next h =>
      refine ⟨hnodup, hq, fun z => ?_, ⟨fun _ => rfl, fun _ => rfl⟩⟩
      rw [h] at hw
      exact hw z
  | table op =>
    rw [State.tableChanged_frame]
    exact ⟨hnodup, hq, hw, hidle⟩
  | coldStart => exact State.reset_queueSound
  | _ => exact ⟨hnodup, hq, hw, hidle⟩

/-- Settles O56. -/
theorem queueStaysSound : Obligations.QueueStaysSound := by
  unfold Obligations.QueueStaysSound
  exact fun s t hs hstep => kept_by_step (fun _ _ h => h) (fun _ _ _ => Change.queueSound) hstep hs

/-! ### Every command completes -/

theorem Change.pending (h : Change s k t) : t.pending = s.pending := by
  cases h with
  | table op h => rw [State.tableChanged_frame]; rfl
  | stopSen => rw [State.stopSen_frame]; rfl
  | take => rw [State.takeZone_frame]; rfl
  | _ => rfl

end

/-- Settles O2. No change of the part touches the queue of commands. -/
theorem everyCommandCompletes : Obligations.EveryCommandCompletes := by
  unfold Obligations.EveryCommandCompletes
  intro i s
  obtain ⟨t, ht, hbecomes⟩ := exec_reaches i s
  refine ⟨t, ht, ?_⟩
  clear ht
  induction hbecomes with
  | refl => rfl
  | tail _ hc ih =>
    obtain ⟨_, -, hc⟩ := hc
    exact hc.pending.trans ih

end Sys2Proof.Machine

/-! SUPPORT and PROOFS. The work of the bus master: the ranges of the sweep and where each of them is, over every operation that touches them; with
it the supplies, the quiet of a stopped main domain, and the statement about both. -/

namespace Sys2Proof.Machine

/-! ### The work in hand (R123, R125, R138, R143) -/

/-- A range taken from the stack: it is in order, leaves room on the stack, and belongs to an active sweep. -/
def State.popped (s : State) (r : Range) : Prop := r.lo ≤ r.hi ∧ s.abm.sweep.stack.length ≤ 31 ∧ s.abm.sweep.active = true

/-- The part of the bus invariant that does not speak of the supervisor. -/
structure State.WorkSound (s : State) : Prop where
  depth   : s.abm.sweep.stack.length ≤ 32
  ordered : ∀ r ∈ s.abm.sweep.stack, r.lo ≤ r.hi
  idle    : s.abm.sweep.active = false → s.abm.sweep.stack = []
  asked   : ∀ r, s.abm.activity.range = some r → s.popped r
  waits   : ∀ a r, s.atu.handed = some a → a.range = some r → s.popped r ∧ s.abm.activity = .none
  off     : s.abm.bus = .off → s.abm.cycle = none ∧ s.abm.activity = .none ∧ s.abm.sweep.active = false ∧
    ∀ z : ZoneNo, s.zones[z].state ≠ .armed

/-- The same in the middle of an operation: nothing is in hand or waits with an act, and the range `p` is on its way. -/
structure State.FreeSound (s : State) (p : Option Range) : Prop where
  sound    : s.WorkSound
  free     : s.abm.activity = .none
  detached : ∀ a, s.atu.handed = some a → a.range = none
  held     : ∀ r, p = some r → s.popped r

theorem State.busSound_iff (s : State) : s.BusSound ↔
    s.WorkSound ∧ (s.ssv.domain ≠ .running → s.abm.bus ≠ .stopping ∧ ∀ z : ZoneNo, s.zones[z].state ≠ .armed) := by
  constructor
  · rintro ⟨h1, h2, h3, h4, h5, h6, h7⟩
    refine ⟨⟨h1, h2, h3, h4, fun a r ha hr => ?_, h6⟩, h7⟩
    obtain ⟨ho, hl, hact, hn⟩ := h5 a r ha hr
    exact ⟨⟨ho, hl, hact⟩, hn⟩
  · rintro ⟨⟨h1, h2, h3, h4, h5, h6⟩, h7⟩
    refine ⟨h1, h2, h3, h4, fun a r ha hr => ?_, h6, h7⟩
    obtain ⟨⟨ho, hl, hact⟩, hn⟩ := h5 a r ha hr
    exact ⟨ho, hl, hact, hn⟩

/-! ### What leaves the work alone -/

/-- From `s` to `t` the bus master's work is the same, and no zone has become ARMED. -/
structure State.SameWork (s t : State) : Prop where
  abm    : s.abm.SameWork t.abm
  handed : t.atu.handed = s.atu.handed
  armed  : ∀ z : ZoneNo, t.zones[z].state = .armed → s.zones[z].state = .armed

theorem Abm.SameWork.refl (a : Abm) : a.SameWork a := ⟨rfl, rfl, rfl, id⟩

section
variable {s t : State} {p : Option Range}

theorem State.SameWork.refl (s : State) : s.SameWork s := ⟨.refl _, rfl, fun _ => id⟩

theorem State.SameWork.trans {u : State} (h : s.SameWork t) (k : t.SameWork u) : s.SameWork u where
  abm := ⟨k.abm.bus.trans h.abm.bus, k.abm.activity.trans h.abm.activity, k.abm.sweep.trans h.abm.sweep, k.abm.cycle ∘ h.abm.cycle⟩
  handed := k.handed.trans h.handed
  armed z := h.armed z ∘ k.armed z

theorem State.withAbm_sameWork {a : Abm} (h : s.abm.SameWork a) : s.SameWork (s.withAbm a) := ⟨h, rfl, fun _ => id⟩

/-- A zone's update that does not make it ARMED. -/
theorem unarmed_set {zones : Vector Zone 16} {z : ZoneNo} {r : Zone} (h : r.state = .armed → zones[z].state = .armed) (y : ZoneNo)
    (hy : (zones.set z r)[y].state = .armed) : zones[y].state = .armed := by
  rw [set_get] at hy
  split at hy
  · next hzy => exact hzy ▸ h hy
  · exact hy

theorem Change.sameWork (h : Change s .beside t) : s.SameWork t := by
  cases h with
  | values a h => exact State.withAbm_sameWork h
  | atu u _ h => exact ⟨.refl _, h, fun _ => id⟩
  | zone z r h => exact ⟨.refl _, rfl, unarmed_set h.armed⟩
  | close z cause terms h => exact ⟨.refl _, rfl, unarmed_set (r := s.zones[z].close cause s.abm.cycleNumber terms) nofun⟩
  | release z h => exact ⟨.refl _, rfl, unarmed_set nofun⟩
  | take =>
    unfold State.takeZone
    split
    · exact .refl s
    · exact ⟨.refl _, rfl, unarmed_set nofun⟩
  | stopSen =>
    unfold State.stopSen
    split
    · exact ⟨.refl _, rfl, unarmed_set nofun⟩
    · exact ⟨.refl _, rfl, fun _ => id⟩
  | table op =>
    rw [State.tableChanged_frame]
    exact ⟨.refl _, rfl, fun _ => id⟩
  | _ => exact ⟨.refl _, rfl, fun _ => id⟩

/-- Short of its own changes the supervisor's state stays. -/
theorem Change.keeps_ssv {j : Reach} (h : Change s j t) (hj : j.within .bus) : t.ssv = s.ssv := by
  cases h with
  | ssv => exact hj.elim
  | coldStart => exact hj.elim
  | take => rw [State.takeZone_frame]; rfl
  | stopSen => rw [State.stopSen_frame]; rfl
  | table op => rw [State.tableChanged_frame]; rfl
  | _ => rfl

theorem State.Reaches.sameWork (h : s.Reaches .beside t) : s.SameWork t := by
  induction h with
  | refl => exact .refl s
  | tail _ hc ih =>
    obtain ⟨j, hj, hc⟩ := hc
    cases j with
    | beside => exact ih.trans hc.sameWork
    | bus => exact hj.elim
    | supply => exact hj.elim

theorem State.Becomes.keeps_ssv (h : s.Becomes t) : t.ssv = s.ssv := by
  induction h with
  | refl => rfl
  | tail _ hc ih =>
    obtain ⟨_, hj, hc⟩ := hc
    exact (hc.keeps_ssv hj).trans ih

theorem State.SameWork.popped (h : s.SameWork t) {r : Range} (hr : s.popped r) : t.popped r := by
  unfold State.popped
  rw [h.abm.sweep]
  exact hr

theorem State.WorkSound.same (hs : s.WorkSound) (h : s.SameWork t) : t.WorkSound where
  depth := h.abm.sweep ▸ hs.depth
  ordered := h.abm.sweep ▸ hs.ordered
  idle := h.abm.sweep ▸ hs.idle
  asked r hr := h.popped (hs.asked r (h.abm.activity ▸ hr))
  waits a r ha hr := by
    obtain ⟨hpop, hn⟩ := hs.waits a r (h.handed ▸ ha) hr
    exact ⟨h.popped hpop, h.abm.activity.trans hn⟩
  off hb := by
    obtain ⟨hcycle, hn, hidle, harmed⟩ := hs.off (h.abm.bus ▸ hb)
    exact ⟨h.abm.cycle hcycle, h.abm.activity.trans hn, h.abm.sweep ▸ hidle, fun z hz => harmed z (h.armed z hz)⟩

theorem State.FreeSound.same (hs : s.FreeSound p) (h : s.SameWork t) : t.FreeSound p where
  sound := hs.sound.same h
  free := h.abm.activity.trans hs.free
  detached a ha := hs.detached a (h.handed ▸ ha)
  held r hr := h.popped (hs.held r hr)

theorem State.FreeSound.drop (hs : s.FreeSound p) : s.FreeSound none := { hs with held := nofun }

theorem State.countBus_sameWork (s : State) (f : BusCounters → BusCounters) : s.SameWork (s.countBus f) := (s.countBus_becomes f).sameWork
theorem State.countTotal_sameWork (s : State) (f : BusTotals → BusTotals) : s.SameWork (s.countTotal f) := (s.countTotal_becomes f).sameWork
theorem State.updCycle_sameWork (s : State) (f : Cycle → Cycle) : s.SameWork (s.updCycle f) := (s.updCycle_becomes f).sameWork
theorem State.withRotation_sameWork (s : State) (x : Serial) : s.SameWork (s.withRotation x) := (s.withRotation_becomes x).sameWork

/-! ### Ranges taken up and laid down -/

/-- New work is taken up, with the range on its way or with none. -/
theorem State.FreeSound.take_up (hs : s.FreeSound p) (hbus : s.abm.bus ≠ .off) (a : Activity) (ha : ∀ r, a.range = some r → p = some r) :
    (s.withActivity a).WorkSound where
  depth := hs.sound.depth
  ordered := hs.sound.ordered
  idle := hs.sound.idle
  asked r hr := hs.held r (ha r hr)
  waits x _ hx hr := absurd ((hs.detached x hx).symm.trans hr) nofun
  off hb := absurd hb hbus

/-- The work in hand is laid down, and its range is on its way. -/
theorem State.WorkSound.lay_down (hs : s.WorkSound) (hact : s.abm.activity ≠ .none) :
    (s.withActivity .none).FreeSound s.abm.activity.range where
  sound :=
    { depth := hs.depth
      ordered := hs.ordered
      idle := hs.idle
      asked := nofun
      waits := fun a r ha hr => ⟨(hs.waits a r ha hr).1, rfl⟩
      off := fun hb => ⟨(hs.off hb).1, rfl, (hs.off hb).2.2⟩ }
  free := rfl
  detached a ha := Option.eq_none_iff_forall_ne_some.2 fun r hr => hact (hs.waits a r ha hr).2
  held := hs.asked

/-- An act is handed over, with the range on its way or with none. -/
theorem State.FreeSound.hand_over (hs : s.FreeSound p) (x : HandedAct) (hx : ∀ r, x.range = some r → p = some r) :
    (s.hand (some x)).WorkSound :=
  { hs.sound with
    waits := fun a r ha hr => by
      cases ha
      exact ⟨hs.held r (hx r hr), hs.free⟩ }

theorem State.WorkSound.unhand (hs : s.WorkSound) : (s.hand none).WorkSound := { hs with waits := nofun }

/-- The act handed over is taken, and its range is on its way. -/
theorem State.WorkSound.take_act (hs : s.WorkSound) {x : HandedAct} (hx : s.atu.handed = some x) {g : Range} (hg : x.range = some g) :
    (s.hand none).FreeSound (some g) := by
  obtain ⟨hpop, hn⟩ := hs.waits x g hx hg
  refine ⟨hs.unhand, hn, nofun, fun r hr => ?_⟩
  cases hr
  exact hpop

/-- The sweep's ranges are replaced while nothing is in hand. -/
theorem State.FreeSound.restack (hs : s.FreeSound p) {sw : Sweep} (hdepth : sw.stack.length ≤ 32) (hordered : ∀ r ∈ sw.stack, r.lo ≤ r.hi)
    (hidle : sw.active = false → sw.stack = []) (hactive : s.abm.sweep.active = false → sw.active = false) :
    (s.withAbm { s.abm with sweep := sw }).FreeSound none where
  sound :=
    { depth := hdepth
      ordered := hordered
      idle := hidle
      asked := fun _ (hr : s.abm.activity.range = some _) => absurd hr (by rw [hs.free]; nofun)
      waits := fun a r ha hr => absurd ((hs.detached a ha).symm.trans hr) nofun
      off := fun hb => by
        obtain ⟨hcycle, hn, hoff, harmed⟩ := hs.sound.off hb
        exact ⟨hcycle, hn, hactive hoff, harmed⟩ }
  free := hs.free
  detached := hs.detached
  held := nofun

theorem State.FreeSound.endSweep (hs : s.FreeSound p) (o : SweepOutcome) : (s.endSweep o).FreeSound none := by
  have hempty := hs.restack (sw := ⟨false, []⟩) (Nat.zero_le _) nofun (fun _ => rfl) fun _ => rfl
  have hcycle : s.abm.cycle = none → (s.endSweep o).abm.cycle = none := fun h => by
    show s.abm.cycle.map _ = none
    rw [h]
    rfl
  exact hempty.same ⟨⟨rfl, rfl, rfl, hcycle⟩, rfl, fun _ => id⟩

theorem State.FreeSound.pushBack {r : Range} (hs : s.FreeSound (some r)) : (s.pushBack r).FreeSound none := by
  obtain ⟨hr, hroom, hactive⟩ := hs.held r rfl
  refine hs.restack (sw := { s.abm.sweep with stack := r :: s.abm.sweep.stack }) (Nat.succ_le_succ hroom) (fun x hx => ?_)
    (fun h => absurd (hactive.symm.trans h) nofun) id
  rcases List.mem_cons.1 hx with rfl | hx
  · exact hr
  · exact hs.sound.ordered x hx

/-- The halves of a range of more than one serial are in order (R143). -/
theorem Range.halves_ordered {r : Range} (h : r.lo < r.hi) : r.lower.lo ≤ r.lower.hi ∧ r.upper.lo ≤ r.upper.hi := by
  have hmid : r.mid.toNat = (r.lo.toNat + r.hi.toNat) / 2 := by
    rw [Range.mid, BitVec.toNat_ofNat]
    omega
  have hlt : r.lo.toNat < r.hi.toNat := h
  refine ⟨BitVec.le_def.2 ?_, BitVec.le_def.2 ?_⟩
  · show r.lo.toNat ≤ r.mid.toNat
    omega
  · show (r.mid + 1).toNat ≤ r.hi.toNat
    rw [BitVec.toNat_add]
    show (r.mid.toNat + 1) % 2 ^ 32 ≤ r.hi.toNat
    omega

theorem State.FreeSound.splitRange {r : Range} (hs : s.FreeSound (some r)) (u : Bool) : (s.splitRange r u).FreeSound none := by
  obtain ⟨hr, -, hactive⟩ := hs.held r rfl
  unfold State.splitRange
  split
  · next hlt =>
    split
    · next hroom =>
      obtain ⟨hlower, hupper⟩ := Range.halves_ordered hlt
      refine hs.restack (sw := { s.abm.sweep with stack := r.lower :: r.upper :: s.abm.sweep.stack }) (by simp; omega) (fun x hx => ?_)
        (fun h => absurd (hactive.symm.trans h) nofun) id
      rcases List.mem_cons.1 hx with rfl | hx
      · exact hlower
      · rcases List.mem_cons.1 hx with rfl | hx
        · exact hupper
        · exact hs.sound.ordered x hx
    · exact hs.endSweep _
  · split
    · exact hs.drop.same (s.countTotal_sameWork _)
    · exact hs.drop

/-! ### The sweep and the cycle (R126, R139) -/

theorem State.canStart_running (h : s.canStart = true) : s.abm.bus = .running := by
  unfold State.canStart at h
  simp only [Bool.and_eq_true, beq_iff_eq] at h
  exact h.1

theorem State.canStart_notOff (h : s.canStart = true) : s.abm.bus ≠ .off := by
  rw [State.canStart_running h]
  nofun

/-- The top of the stack is popped. -/
theorem State.FreeSound.pop (hs : s.FreeSound p) {r : Range} {rest : List Range} (h : s.abm.sweep.stack = r :: rest) :
    (s.withStack rest).FreeSound (some r) := by
  have hactive : s.abm.sweep.active = true := by
    by_contra hn
    rw [hs.sound.idle (by simpa using hn)] at h
    cases h
  have hdepth := hs.sound.depth
  have hordered := hs.sound.ordered
  rw [h] at hdepth hordered
  have hrest : rest.length ≤ 31 := Nat.le_of_succ_le_succ hdepth
  have hnone := hs.restack (sw := { s.abm.sweep with stack := rest }) (hrest.trans (by decide)) (fun x hx => hordered x (List.mem_cons_of_mem _ hx))
    (fun hn => absurd (hactive.symm.trans hn) nofun) id
  refine { hnone with held := fun x hx => ?_ }
  cases hx
  exact ⟨hordered r List.mem_cons_self, hrest, hactive⟩

theorem State.FreeSound.sweepStep (hs : s.FreeSound none) : s.sweepStep.WorkSound := by
  unfold State.sweepStep
  split
  · exact (hs.endSweep _).sound
  · next r rest hstack =>
    split
    · next hstart =>
      exact ((hs.pop hstack).same (State.countBus_sameWork _ _)).take_up (State.canStart_notOff hstart) _ fun _ h => h
    · exact (hs.same (s.updCycle_sameWork _)).sound

/-- A step of the sweep leaves what is handed over. -/
theorem State.sweepStep_handed (s : State) : s.sweepStep.atu.handed = s.atu.handed := by
  unfold State.sweepStep
  split
  · rfl
  · split <;> rfl

theorem State.FreeSound.endPoll (hs : s.FreeSound none) : s.endPoll.WorkSound := by
  unfold State.endPoll
  split
  · exact (hs.same (s.updCycle_sameWork _)).sweepStep
  · exact (hs.same (s.updCycle_sameWork _)).sound

/-- A sweep begins where none is active: no range is anywhere. -/
theorem State.WorkSound.beginSweep (hs : s.WorkSound) (hbus : s.abm.bus ≠ .off) (hidle : s.abm.sweep.active = false) : s.beginSweep.WorkSound where
  depth := (by decide : 1 ≤ 32)
  ordered r hr := by
    rw [List.mem_singleton.1 hr]
    decide
  idle := nofun
  asked r hr := by
    obtain ⟨-, -, hactive⟩ := hs.asked r hr
    exact absurd (hidle.symm.trans hactive) nofun
  waits a r ha hr := by
    obtain ⟨⟨-, -, hactive⟩, -⟩ := hs.waits a r ha hr
    exact absurd (hidle.symm.trans hactive) nofun
  off hb := absurd hb hbus

theorem State.WorkSound.automaticSweep (hs : s.WorkSound) (hbus : s.abm.bus ≠ .off) : s.automaticSweep.WorkSound := by
  unfold State.automaticSweep
  split
  · exact hs
  · have hcount : s.SameWork (s.withAbm { s.abm with sweepCount := satAdd 255 s.abm.sweepCount 1 }) :=
      State.withAbm_sameWork ⟨rfl, rfl, rfl, id⟩
    dsimp only
    split
    · next h => exact (hs.same hcount).beginSweep hbus h.2
    · exact hs.same hcount

/-- A new cycle has the BEACON frame in hand, so no range may wait with an act. -/
theorem State.WorkSound.newCycle (hs : s.WorkSound) (hbus : s.abm.bus ≠ .off) (hdet : ∀ a, s.atu.handed = some a → a.range = none) :
    (s.withAbm s.abm.newCycle).WorkSound where
  depth := hs.depth
  ordered := hs.ordered
  idle := hs.idle
  asked := nofun
  waits a _ ha hr := absurd ((hdet a ha).symm.trans hr) nofun
  off hb := absurd hb hbus

theorem State.WorkSound.beginCycle (hs : s.WorkSound) (hbus : s.abm.bus ≠ .off) (hdet : ∀ a, s.atu.handed = some a → a.range = none) :
    s.beginCycle.WorkSound := by
  have hsame : s.SameWork s.deferRest.noteOverrun := s.deferRest_becomes.sameWork.trans (State.noteOverrun_becomes _).sameWork
  have hnew := (hs.same hsame).newCycle (by rw [hsame.abm.bus]; exact hbus) (by rw [hsame.handed]; exact hdet)
  have hclosed := (State.closeArmed_becomes (s.deferRest.noteOverrun.withAbm s.deferRest.noteOverrun.abm.newCycle) .cycleEnd).sameWork.trans
    (State.countBus_sameWork _ .addCycle)
  have hbus' : s.deferRest.noteOverrun.abm.newCycle.bus ≠ .off := by
    show s.deferRest.noteOverrun.abm.bus ≠ .off
    rw [hsame.abm.bus]
    exact hbus
  exact (hnew.same hclosed).automaticSweep (by rw [hclosed.abm.bus]; exact hbus')

/-! ### The stop (R125) -/

/-- After the closes no zone is ARMED. -/
theorem closesArmed.unarmed {cause : CloseCause} {n : Word16} (h : closesArmed cause n s t) (z : ZoneNo) : t.zones[z].state ≠ .armed := by
  obtain ⟨hclosed, hother, -⟩ := h
  by_cases hz : s.zones[z].state = .armed
  · rw [hclosed z hz]
    nofun
  · rw [hother z hz]
    exact hz

theorem HandedAct.detach_range (a : HandedAct) : a.detach.range = none := by cases a <;> rfl

/-- A bus that has stopped, with nothing in hand and no sweep. -/
theorem State.workSound_of_stopped (hn : s.abm.activity = .none) (hcycle : s.abm.cycle = none) (hsweep : s.abm.sweep = ⟨false, []⟩)
    (hdet : ∀ a, s.atu.handed = some a → a.range = none) (hzones : s.abm.bus = .off → ∀ z : ZoneNo, s.zones[z].state ≠ .armed) : s.WorkSound where
  depth := by rw [hsweep]; exact Nat.zero_le _
  ordered := by rw [hsweep]; nofun
  idle _ := by rw [hsweep]
  asked := by rw [hn]; nofun
  waits a _ ha hr := absurd ((hdet a ha).symm.trans hr) nofun
  off hb := ⟨hcycle, hn, by rw [hsweep], hzones hb⟩

theorem State.WorkSound.busStop (hs : s.WorkSound) : s.busStop.WorkSound := by
  obtain ⟨hclosed, -, -, hatu, hidle, hactive⟩ := s.busStop_stops
  have hdet : ∀ a, s.busStop.atu.handed = some a → a.range = none := fun a ha => by
    rw [hatu] at ha
    obtain ⟨x, -, rfl⟩ := Option.map_eq_some_iff.1 ha
    exact x.detach_range
  have hzones : s.busStop.abm.bus = .off → ∀ z : ZoneNo, s.busStop.zones[z].state ≠ .armed := fun _ => hclosed.unarmed
  cases hsweep : s.abm.sweep.active with
  | false =>
    obtain ⟨habm, -⟩ := hidle hsweep
    have hempty : s.abm.sweep = ⟨false, []⟩ := by rw [← hsweep, ← hs.idle hsweep]
    exact State.workSound_of_stopped (by rw [habm]) (by rw [habm]) (by rw [habm]; exact hempty) hdet hzones
  | true =>
    obtain ⟨habm, -⟩ := hactive hsweep
    exact State.workSound_of_stopped (by rw [habm]) (by rw [habm]) (by rw [habm]) hdet hzones

theorem State.FreeSound.proceed (hs : s.FreeSound none) : s.proceed.WorkSound := by
  have hstep (t : State) (hwork : t.WorkSound) (hhanded : t.atu.handed = s.atu.handed) : (match t.abm.cycle, t.abm.activity with
      | some c, .none => if c.spent then t.beginCycle else t
      | _, _ => t).WorkSound := by
    split
    · next hcycle _ =>
      split
      · refine hwork.beginCycle (fun hoff => ?_) fun a ha => hs.detached a (hhanded ▸ ha)
        cases hcycle.symm.trans (hwork.off hoff).1
      · exact hwork
    · exact hwork
  unfold State.proceed
  refine hstep _ ?_ ?_
  · split
    · split
      · exact hs.sweepStep
      · exact hs.sound
    · exact hs.sound
  · split
    · split
      · exact s.sweepStep_handed
      · rfl
    · rfl

theorem State.WorkSound.stopOrProceed (hs : s.WorkSound) : s.stopOrProceed.WorkSound := by
  unfold State.stopOrProceed
  split
  · split
    · exact hs
    · exact hs.busStop
  · split
    · next h => exact State.FreeSound.proceed ⟨hs, h.2, fun a ha => absurd (h.1.symm.trans ha) nofun, nofun⟩
    · exact hs

/-! ### The ends of attempts and of the BEACON frame (R120, R127, R132 to R142) -/

theorem State.FreeSound.readFailed (hs : s.FreeSound none) (x : Serial) (e : Bool) (n : Nat) : (s.readFailed x e n).WorkSound := by
  unfold State.readFailed
  split
  · split
    · next hstart => exact hs.take_up (State.canStart_notOff hstart) _ nofun
    · split
      · exact hs.sound
      · exact (hs.same ((s.withRotation_sameWork x).trans (State.updCycle_sameWork _ _))).sound
  · exact (hs.same (s.updCycle_sameWork _)).hand_over _ nofun

theorem State.FreeSound.readEnd (hs : s.FreeSound none) (x : Serial) (e : Bool) (n : Nat) (reply : AttemptReply) :
    (s.readEnd x e n reply).WorkSound := by
  have hs' := hs.same (s.countBus_sameWork (readCount x e reply))
  unfold State.readEnd
  dsimp only
  split
  · exact (hs'.same (State.updCycle_sameWork _ _)).sound
  · unfold State.readOutcome
    split
    · split
      · exact hs'.readFailed ..
      · split
        · exact (hs'.same (State.updCycle_sameWork _ _)).sound
        · exact (hs'.same (State.updCycle_sameWork _ _)).hand_over _ nofun
    all_goals exact hs'.readFailed ..

theorem State.FreeSound.rollCallEnd {r : Range} (hs : s.FreeSound (some r)) (reply : AttemptReply) : (s.rollCallEnd r reply).WorkSound := by
  unfold State.rollCallEnd
  split
  · exact (hs.same (s.countBus_sameWork _)).sound
  · split
    · exact hs.hand_over _ fun _ h => h
    · exact (hs.same (s.countBus_sameWork _)).sound
  all_goals exact ((hs.same (s.countBus_sameWork _)).splitRange _).sound

theorem State.FreeSound.enrollFailed {r : Range} (hs : s.FreeSound (some r)) (x : Serial) (n : Nat) : (s.enrollFailed r x n).WorkSound := by
  unfold State.enrollFailed
  split
  · split
    · next hstart => exact hs.take_up (State.canStart_notOff hstart) _ fun _ h => h
    · exact (hs.pushBack.same (State.updCycle_sameWork _ _)).sound
  · exact (hs.splitRange _).sound

theorem State.FreeSound.enrollEnd {r : Range} (hs : s.FreeSound (some r)) (x : Serial) (n : Nat) (reply : AttemptReply) :
    (s.enrollEnd r x n reply).WorkSound := by
  have hfailed (f : BusCounters → BusCounters) := (hs.same (s.countBus_sameWork f)).enrollFailed x n
  unfold State.enrollEnd
  split
  · exact hfailed _
  · split
    · exact hs.hand_over _ fun _ h => h
    · exact hfailed _
  all_goals exact hfailed _

/-- The range that an attempt's transaction asks about is its attempt's. -/
theorem State.FreeSound.judge {t : Transaction} {m : Option AttemptReply} {n : Nat} (hs : s.FreeSound (Activity.attempt t n m).range)
    (reply : AttemptReply) : (s.judge t n reply).WorkSound := by
  cases t with
  | read x e => exact hs.drop.readEnd ..
  | rollCall r => exact State.FreeSound.rollCallEnd hs reply
  | enroll r x => exact State.FreeSound.enrollEnd hs x n reply

theorem State.WorkSound.attemptEnd (hs : s.WorkSound) {t : Transaction} {n : Nat} {m : Option AttemptReply}
    (hact : s.abm.activity = .attempt t n m) (reply : AttemptReply) : (s.attemptEnd t n reply).WorkSound := by
  have hfree := (hs.same (s.updCycle_sameWork fun c => { c with elapsed := c.elapsed + attemptLength t reply, passed := 0 })).lay_down
    (show s.abm.activity ≠ .none by rw [hact]; nofun)
  have hrange : (s.updCycle fun c => { c with elapsed := c.elapsed + attemptLength t reply, passed := 0 }).abm.activity.range =
      (Activity.attempt t n m).range := congrArg Activity.range hact
  rw [hrange] at hfree
  have hjudged := hfree.judge reply
  unfold State.attemptEnd State.afterAttempt
  split
  · exact hjudged.busStop
  · exact hjudged.stopOrProceed

theorem State.FreeSound.pollNext (hs : s.FreeSound none) (c : Cycle) : (s.pollNext c).WorkSound := by
  unfold State.pollNext
  split
  · exact hs.endPoll
  · split
    · next hstart => exact (hs.same (s.countBus_sameWork _)).take_up (State.canStart_notOff hstart) _ nofun
    · exact (hs.same ((s.withRotation_sameWork _).trans (State.updCycle_sameWork _ _))).sound

theorem State.WorkSound.beaconSent (hs : s.WorkSound) (hact : s.abm.activity = .beacon) : s.beaconSent.WorkSound := by
  have hfree := ((hs.same (s.updCycle_sameWork fun c => { c with elapsed := c.elapsed + 77, passed := 0 })).lay_down
    (show s.abm.activity ≠ .none by rw [hact]; nofun)).drop
  unfold State.beaconSent
  dsimp only
  split
  · exact hfree.sound.busStop
  · have hpoll := hfree.same (State.updCycle_sameWork _ fun c => { c with phase := .poll, cursor := none })
    split
    · exact hpoll.endPoll
    · exact hpoll.sound

/-- An attempt whose reception ends asks about the same range. -/
theorem State.WorkSound.receive (hs : s.WorkSound) (kind : Transaction → Bool) (reply : AttemptReply) : (s.receive kind reply).WorkSound := by
  unfold State.receive
  split
  · next t n hact =>
    have hrange : (Activity.attempt t n (some reply)).range = s.abm.activity.range := by
      rw [hact]
      cases t <;> rfl
    have hon : s.abm.activity ≠ .none := by rw [hact]; nofun
    have hfree := (hs.same (s.updCycle_sameWork fun c => { c with passed := receptionLength t reply })).lay_down hon
    split
    · refine hfree.take_up (fun hoff => hon (hs.off hoff).2.1) (.attempt t n (some reply)) fun r hr => ?_
      rw [hrange] at hr
      exact hr
    · exact hs
  · exact hs

/-! ### Acts and Node Table operations (R133 to R142, R150) -/

theorem State.FreeSound.startEnroll {r : Range} (hs : s.FreeSound (some r)) (x : Serial) : (s.startEnroll r x).WorkSound := by
  unfold State.startEnroll
  split
  · next hstart => exact (hs.same (s.countBus_sameWork _)).take_up (State.canStart_notOff hstart) _ fun _ h => h
  · exact (hs.pushBack.same (State.updCycle_sameWork _ _)).sound

/-- Learning, with the range that waits for it on its way. -/
theorem State.WorkSound.learn (hs : s.WorkSound) {r : Option Range} (hr : ∀ g, r = some g → s.FreeSound (some g)) (h : HereReply) :
    (s.learn r h).WorkSound := by
  have hentry (f : NodeEntry → NodeEntry) : s.SameWork (s.updNode h.serial f) := ⟨.refl _, rfl, fun _ => id⟩
  unfold State.learn
  split
  · cases r with
    | none => exact hs.same (s.countTotal_sameWork _)
    | some g => exact (((hr g rfl).same (s.countTotal_sameWork _)).splitRange _).sound
  split
  · cases r with
    | none => exact hs.same (hentry _)
    | some g => exact ((hr g rfl).same (hentry _)).startEnroll _
  split
  · cases r with
    | none => exact hs.same (s.countTotal_sameWork _)
    | some g => exact (((hr g rfl).same (s.countTotal_sameWork _)).endSweep _).sound.same (State.Reaches.sameWork (State.flag_becomes _ _))
  · have hop : s.SameWork (s.withAtu { s.atu with op := some (.insertion h) }) := ⟨.refl _, rfl, fun _ => id⟩
    cases r with
    | none => exact hs.same hop
    | some g =>
      have hfree := hr g rfl
      obtain ⟨-, -, hactive⟩ := hfree.held g rfl
      exact (hfree.same hop).take_up (fun hoff => absurd ((hs.off hoff).2.2.1.symm.trans hactive) nofun) _ fun _ h => h

theorem State.WorkSound.setToggle (hs : s.WorkSound) {r : Option Range} (hr : ∀ g, r = some g → s.FreeSound (some g)) (x : Serial) :
    (s.setToggle r x).WorkSound := by
  have hentry : s.SameWork (s.updNode x fun e => { e with toggle := true }) := ⟨.refl _, rfl, fun _ => id⟩
  unfold State.setToggle
  cases r with
  | none => exact hs.same hentry
  | some g => exact ((hr g rfl).same hentry).pushBack.sound

theorem State.WorkSound.accepted (hs : s.WorkSound) (r : Reading) : (s.accepted r).WorkSound := hs.same (s.accepted_becomes r).sameWork

theorem State.WorkSound.missed (hs : s.WorkSound) (x : Serial) : (s.missed x).WorkSound := hs.same (s.missed_becomes x).sameWork

/-- A learning or a toggle that is taken has its range on its way. -/
theorem State.WorkSound.take_waiting (hs : s.WorkSound) {x : HandedAct} (hx : s.atu.handed = some x) {r : Option Range} (hr : x.range = r) :
    ∀ g, r = some g → (s.hand none).FreeSound (some g) :=
  fun _ hg => hs.take_act hx (hr.trans hg)

theorem State.WorkSound.completeHanded (hs : s.WorkSound) : s.completeHanded.WorkSound := by
  unfold State.completeHanded
  split
  · exact hs
  · split
    · exact hs.unhand.accepted _
    · exact hs.unhand.missed _
    · next hx => exact hs.unhand.learn (hs.take_waiting hx rfl) _
    · next hx => exact hs.unhand.setToggle (hs.take_waiting hx rfl) _
    · exact hs

theorem State.WorkSound.opEnded (hs : s.WorkSound) {op : NodeOp} (hop : s.atu.op = some op) (w : Nat) : (s.opEnded op w).WorkSound := by
  have hcounted : s.SameWork (if s.busWaits then s.elapse (max w s.counted) else s) := by
    split
    · exact s.updCycle_sameWork _
    · exact .refl s
  have hend (b : Bool) (t : State) (ht : t.WorkSound) : (if b then t.stopOrProceed else t).WorkSound := by
    split
    · exact ht.stopOrProceed
    · exact ht
  refine hend _ _ ?_
  have hop' : (if s.busWaits then s.elapse (max w s.counted) else s).atu.op = some op := by split <;> exact hop
  have hchanged := (Change.table op hop').sameWork.trans (State.Reaches.sameWork (State.forgetReply_becomes _ op))
  have hs' := hs.same (hcounted.trans hchanged)
  generalize State.forgetReply _ op = t at hs' ⊢
  unfold State.afterInsertion
  split
  · next g x hact =>
    have hfree := hs'.lay_down (by rw [hact]; nofun)
    rw [hact] at hfree
    exact State.FreeSound.startEnroll hfree x
  all_goals exact hs'

/-! ### The requests that touch the bus (R15, R124, R125, R138) -/

theorem State.WorkSound.letTimePass (hs : s.WorkSound) : s.letTimePass.WorkSound := hs.same s.letTimePass_becomes.sameWork

/-- BUS ON: from an OFF bus nothing is in hand and no range waits. -/
theorem State.WorkSound.startBus (hs : s.WorkSound) (hoff : s.abm.bus = .off) : s.startBus.WorkSound := by
  obtain ⟨hcycle, hn, hidle, harmed⟩ := hs.off hoff
  have hrange (a : HandedAct) (ha : s.atu.handed = some a) : a.range = none := by
    refine Option.eq_none_iff_forall_ne_some.2 fun r hr => ?_
    obtain ⟨⟨-, -, hactive⟩, -⟩ := hs.waits a r ha hr
    exact absurd (hidle.symm.trans hactive) nofun
  -- what is handed over after the completion was handed over before, if anything is
  have hdet : ∀ a, s.completeHanded.atu.handed = some a → a.range = none := by
    have hunhanded {t : State} (h : (s.hand none).SameWork t) : ∀ a, t.atu.handed = some a → a.range = none :=
      fun a ha => absurd (h.handed.symm.trans ha) nofun
    unfold State.completeHanded
    split
    · exact hrange
    · split
      · exact hunhanded (State.accepted_becomes _ _).sameWork
      · exact hunhanded (State.missed_becomes _ _).sameWork
      · next r h hx =>
        obtain rfl : r = none := hrange _ hx
        refine hunhanded ?_
        unfold State.learn
        split
        · exact State.countTotal_sameWork _ _
        split
        · exact ⟨.refl _, rfl, fun _ => id⟩
        split
        · exact State.countTotal_sameWork _ _
        · exact ⟨.refl _, rfl, fun _ => id⟩
      · next r x hx =>
        obtain rfl : r = none := hrange _ hx
        exact hunhanded ⟨.refl _, rfl, fun _ => id⟩
      · exact hrange
  have hs' := hs.completeHanded
  have hon : (s.completeHanded.withAbm { s.completeHanded.abm with bus := .running, rotation := 0, sweepCount := 0 }).WorkSound :=
    { hs' with off := nofun }
  exact hon.beginCycle nofun hdet

theorem State.WorkSound.requestStop (hs : s.WorkSound) : s.requestStop.WorkSound := by
  have hstopping : (s.withAbm { s.abm with bus := .stopping }).WorkSound := { hs with off := nofun }
  unfold State.requestStop
  dsimp only
  split
  · exact hstopping
  · exact hstopping.busStop

/-- A zone is ARMED only while a bus is there to end its cycle (R15). -/
theorem State.WorkSound.settleEntry (hs : s.WorkSound) (e : SettleEntry) : (s.settleEntry e).2.WorkSound := by
  unfold State.settleEntry
  split
  · exact hs
  split
  · exact hs
  split
  · exact hs
  split
  · exact hs
  next hbusy =>
  have hopen := ZoneState.busy_of_closed hbusy
  split
  · exact hs
  split
  · exact hs
  split
  · exact hs.same (Change.close _ _ _ hopen).sameWork
  split
  · exact hs
  · next hbus => exact { hs with off := fun hoff => absurd hoff hbus }

theorem State.WorkSound.settleEntries (hs : s.WorkSound) (es : List SettleEntry) : (s.settleEntries es).2.WorkSound := by
  induction es generalizing s with
  | nil => exact hs
  | cons e es ih => exact ih (hs.settleEntry e)

/-- What LINK does around an owner leaves the work. -/
theorem State.WorkSound.take (hs : s.WorkSound) (i : Instr) (type : Byte) {owner : State → Answer}
    (h : ∀ t : State, t.WorkSound → (owner t).state.WorkSound) : (s.take i type owner).WorkSound := by
  have hlink {t : State} (ht : t.WorkSound) (l : Link) : (t.withLink l).WorkSound := ht.same (Change.link l).sameWork
  have harrive : s.arrive.WorkSound := s.arrive_frame ▸ hlink hs _
  have howner := h _ harrive
  unfold State.take
  split
  · cases hans : owner s.arrive with
    | reply st c t =>
      rw [hans] at howner
      exact hlink howner _
    | wait t =>
      rw [hans] at howner
      exact hlink howner _
  · exact hs

end

end Sys2Proof.Machine

namespace Sys2Proof.Machine

/-! ### Requests and stopped domains -/

/-- Settles O1. -/
theorem stepRunsFront : Obligations.StepRunsFront := by
  unfold Obligations.StepRunsFront
  intro i rest s h
  unfold step
  rw [h]

/-- Settles O3. -/
theorem nothingHappens : Obligations.NothingHappens := by
  unfold Obligations.NothingHappens
  refine ⟨fun s h => ?_, fun i s hreq htake => ?_⟩
  · unfold step
    rw [h]
  · obtain ⟨type, owner, hexec, -⟩ := exec_request hreq
    rw [hexec, State.take_of_not type owner htake]

section
variable {s : State} (hrun : s.mainRuns = false)
include hrun

theorem State.canTake_of_stopped (i : Instr) : s.canTake i = false := by
  unfold State.canTake
  rw [show (s.ssv.domain == .running) = false from hrun]
  rfl

theorem State.atStage_of_stopped (st : Stage) : s.atStage st = none := by simp [State.atStage, hrun]

theorem State.gateInFlight_of_stopped : s.gateInFlight = none := by
  have hd : s.ssv.domain ≠ .running := by simpa [State.mainRuns] using hrun
  exact if_neg hd

theorem State.receive_of_stopped (kind : Transaction → Bool) (reply : AttemptReply) : s.receive kind reply = s := by
  unfold State.receive
  split
  · rw [hrun]
    rfl
  · rfl

/-- While the main domain does not run, nothing but the supervisor and the inputs' ticks moves (R189). -/
theorem exec_of_stopped {i : Instr} (hi : reachOf i ≠ .supply) : exec i s = .next s ∨ ∃ c x, exec i s = .next (s.tick c x) := by
  have guarded (t : State) : (if s.mainRuns then t else s) = s := by rw [hrun]; rfl
  have hnot {p : Bool} (t : State) : (if s.mainRuns && p then t else s) = s := by rw [hrun]; rfl
  have unready (t : State) : (if s.actReady then t else s) = s := hnot t
  have candidate (c : ChannelNo) (b : Bool) : s.candidateTick c b = s ∨ ∃ x, s.candidateTick c b = s.tick c x := by
    unfold State.candidateTick
    split
    · split
      · exact .inr ⟨_, rfl⟩
      · exact .inl rfl
    · exact .inl rfl
  by_cases hreq : isRequest i = true
  · obtain ⟨type, owner, hexec, -⟩ := exec_request hreq
    exact .inl ((hexec s).trans (congrArg _ (State.take_of_not type owner (State.canTake_of_stopped hrun _))))
  cases i with
  | tick c x => exact .inr ⟨c, x, rfl⟩
  | acceptedChange c =>
    exact (candidate c s.inputs[c].accepted.isSome).imp (congrArg Host.Outcome.next) fun ⟨x, h⟩ => ⟨c, x, congrArg Host.Outcome.next h⟩
  | inputSettling c =>
    exact (candidate c s.inputs[c].accepted.isNone).imp (congrArg Host.Outcome.next) fun ⟨x, h⟩ => ⟨c, x, congrArg Host.Outcome.next h⟩
  | noFlow c x =>
    show Host.Outcome.next (ite _ _ _) = _ ∨ _
    split
    · next h => exact .inr ⟨c, x, congrArg Host.Outcome.next (if_pos h)⟩
    · exact .inl rfl
  | badFrame | linkOverrun | lineIdle | byteReceived => exact .inl (congrArg _ (guarded _))
  | beaconInstant => exact .inl (congrArg _ (if_neg (by simp [State.beaconDue, hrun])))
  | beaconSent | senTakeZone => exact .inl (congrArg _ (hnot _))
  | reading | here | enrolled | replyTimeout | replyWindowClose => exact .inl (congrArg _ (State.receive_of_stopped hrun _ _))
  | readTransactionStart =>
    refine .inl (congrArg Host.Outcome.next ?_)
    split
    · exact if_neg (by simp [State.pollReady, hrun])
    · rfl
  | attemptEnd | nodeTableOpEnd =>
    refine .inl (congrArg Host.Outcome.next ?_)
    split
    · exact guarded _
    · rfl
  | acceptanceAct | missAct | learning | setExpectedToggle =>
    refine .inl (congrArg Host.Outcome.next ?_)
    split
    · exact unready _
    · rfl
  | referenceGate | gateComplete | gateOverflow =>
    refine .inl (congrArg Host.Outcome.next ?_)
    rw [State.gateInFlight_of_stopped hrun]
  | gather | release =>
    refine .inl (congrArg Host.Outcome.next ?_)
    rw [State.atStage_of_stopped hrun]
  | fixed | consumption | area | standing | post =>
    refine .inl (congrArg Host.Outcome.next ?_)
    rw [State.atStage_of_stopped hrun]
  | replySent | mainSupplyLoss | mainSupplyRise | qualificationComplete | retentionLoss | resetAssert | resetRelease | coldStartEnd =>
    exact absurd rfl hi
  | _ => exact absurd rfl hreq

end

/-! ### The work over every command but the supervisor's -/

section
variable {s : State}

/-- Nothing in hand and nothing handed over. -/
theorem State.WorkSound.free (hs : s.WorkSound) (hn : s.abm.activity = .none) (hh : s.atu.handed = none) : s.FreeSound none :=
  ⟨hs, hn, fun _ ha => absurd (hh.symm.trans ha) nofun, nofun⟩

theorem State.WorkSound.busOnOwner (hs : s.WorkSound) : (busOnOwner s).state.WorkSound := by
  unfold Machine.busOnOwner
  split
  · exact hs
  · exact hs
  · next hoff =>
    rw [accept_state]
    exact hs.startBus hoff

theorem State.WorkSound.busOffOwner (hs : s.WorkSound) : (busOffOwner s).state.WorkSound := by
  unfold Machine.busOffOwner
  split
  · exact hs.letTimePass
  · exact hs.letTimePass
  · exact hs.requestStop.letTimePass

theorem State.WorkSound.startSweepOwner (hs : s.WorkSound) : (startSweepOwner s).state.WorkSound := by
  unfold Machine.startSweepOwner
  split
  · exact hs
  next hbus =>
  split
  · exact hs
  · next hidle =>
    refine (hs.beginSweep (fun hoff => hbus ?_) (by simpa using hidle)).letTimePass
    rw [hoff]
    nofun

theorem State.WorkSound.settleOwner (hs : s.WorkSound) (body : SettleBody) : (settleOwner body s).state.WorkSound := by
  unfold Machine.settleOwner
  split
  · exact hs
  · split
    · exact hs
    · exact hs.settleEntries _

theorem State.WorkSound.exec (hs : s.WorkSound) {i : Instr} (hi : reachOf i ≠ .supply) : ∃ t, exec i s = .next t ∧ t.WorkSound := by
  have guarded (c : Bool) (t : State) (h : c = true → t.WorkSound) : (if c then t else s).WorkSound := by
    split
    · exact h (by assumption)
    · exact hs
  obtain ⟨t, ht, hreach⟩ := exec_reaches i s
  cases hr : reachOf i with
  | supply => exact absurd hr hi
  | beside =>
    rw [hr] at hreach
    exact ⟨t, ht, hs.same hreach.sameWork⟩
  | bus =>
    clear ht hreach
    cases i with
    | settle body => exact ⟨_, rfl, hs.take _ _ fun _ ht => ht.settleOwner body⟩
    | busOn => exact ⟨_, rfl, hs.take _ _ fun _ ht => ht.busOnOwner⟩
    | busOff => exact ⟨_, rfl, hs.take _ _ fun _ ht => ht.busOffOwner⟩
    | startSweep => exact ⟨_, rfl, hs.take _ _ fun _ ht => ht.startSweepOwner⟩
    | beaconInstant =>
      refine ⟨_, rfl, guarded _ _ fun h => ?_⟩
      simp only [State.beaconDue, Bool.and_eq_true, beq_iff_eq, Option.isNone_iff_eq_none] at h
      obtain ⟨⟨⟨⟨-, hbus⟩, -⟩, hhanded⟩, -⟩ := h
      exact hs.beginCycle (by rw [hbus]; nofun) fun _ ha => absurd (hhanded.symm.trans ha) nofun
    | beaconSent =>
      refine ⟨_, rfl, guarded _ _ fun h => hs.beaconSent ?_⟩
      exact eq_of_beq (Bool.and_eq_true_iff.1 h).2
    | readTransactionStart =>
      refine ⟨_, rfl, ?_⟩
      split
      · next c _ =>
        refine guarded _ _ fun h => State.FreeSound.pollNext ?_ c
        simp only [State.pollReady, Bool.and_eq_true, beq_iff_eq, Option.isNone_iff_eq_none] at h
        obtain ⟨⟨⟨⟨-, hn⟩, hhanded⟩, -⟩, -⟩ := h
        exact hs.free hn hhanded
      · exact hs
    | reading | here | enrolled | replyTimeout | replyWindowClose => exact ⟨_, rfl, hs.receive _ _⟩
    | attemptEnd =>
      refine ⟨_, rfl, ?_⟩
      split
      · next hact => exact guarded _ _ fun _ => hs.attemptEnd hact _
      · exact hs
    | acceptanceAct =>
      refine ⟨_, rfl, ?_⟩
      split
      · exact guarded _ _ fun _ => hs.unhand.accepted _
      · exact hs
    | missAct =>
      refine ⟨_, rfl, ?_⟩
      split
      · exact guarded _ _ fun _ => hs.unhand.missed _
      · exact hs
    | learning =>
      refine ⟨_, rfl, ?_⟩
      split
      · next hx => exact guarded _ _ fun _ => (hs.unhand.learn (hs.take_waiting hx rfl) _).stopOrProceed
      · exact hs
    | setExpectedToggle =>
      refine ⟨_, rfl, ?_⟩
      split
      · next hx => exact guarded _ _ fun _ => (hs.unhand.setToggle (hs.take_waiting hx rfl) _).stopOrProceed
      · exact hs
    | nodeTableOpEnd =>
      refine ⟨_, rfl, ?_⟩
      split
      · next hop => exact guarded _ _ fun _ => hs.opEnded hop _
      · exact hs
    | _ => cases hr

end

/-! ### A tick beside the main domain (R89) -/

section
variable (s : State) (c : ChannelNo)

theorem State.takePulse_link (p : Pulse) : (s.takePulse c p).link.besideFlags = s.link.besideFlags := by
  unfold State.takePulse
  dsimp only
  split <;> rfl

theorem State.takeHandover_link : (s.takeHandover c).link.besideFlags = s.link.besideFlags := by
  unfold State.takeHandover
  split
  · rfl
  · exact State.takePulse_link ..

/-- A tick touches LINK's flags alone. -/
theorem State.tick_link (x : Sample) : (s.tick c x).link.besideFlags = s.link.besideFlags := by
  unfold State.tick
  split
  · dsimp only
    split
    · exact (State.takeHandover_link _ c).trans (s.takeHandover_link c)
    · exact s.takeHandover_link c
  · rfl

end

/-! ### The quiet of a stopped main domain (R189, R190, R194, R196) -/

section
variable {s t : State}

theorem Change.supplySound {k : Reach} (h : Change s k t) (hs : s.SupplySound) : t.SupplySound := by
  cases h with
  | ssv v h => exact h hs
  | coldStart v h => exact h hs
  | table op => rw [State.tableChanged_frame]; exact hs
  | stopSen => rw [State.stopSen_frame]; exact hs
  | take => rw [State.takeZone_frame]; exact hs
  | _ => exact hs

/-- What a command keeps of a quiet part: its quiet, and with the quiet the bus. -/
def State.staysQuiet (s t : State) : Prop := t.Quiescent ∧ (s.BusSound → t.BusSound)

theorem State.BusSound.workSound (h : s.BusSound) : s.WorkSound := ((State.busSound_iff s).1 h).1

/-- A main domain that runs is not asked for its quiet. -/
theorem State.staysQuiet_of_running (hd : t.ssv.domain = .running) (hw : s.WorkSound → t.WorkSound) : s.staysQuiet t :=
  ⟨fun hn => absurd hd hn, fun hb => (State.busSound_iff t).2 ⟨hw hb.workSound, fun hn => absurd hd hn⟩⟩

/-- A change of the supervisor's state that stops no running domain. -/
theorem State.staysQuiet_withSsv (hq : s.Quiescent) {v : Ssv} (hd : v.domain ≠ .running → s.ssv.domain ≠ .running) :
    s.staysQuiet (s.withSsv v) := by
  refine ⟨fun hn => hq (hd hn), fun hb => ?_⟩
  obtain ⟨hwork, hstopped⟩ := (State.busSound_iff s).1 hb
  exact (State.busSound_iff _).2 ⟨hwork.same ⟨.refl _, rfl, fun _ => id⟩, fun hn => hstopped (hd hn)⟩

theorem Abm.stop_bus (a : Abm) : a.stop.bus ≠ .stopping := by
  unfold Abm.stop
  dsimp only
  split
  · nofun
  · assumption

/-- The stop of the main domain, whatever the supervisor makes of it. -/
theorem State.staysQuiet_stopMain (v : Ssv) : s.staysQuiet (s.stopMain.withSsv v) := by
  obtain ⟨hreceiver, hburst, hround, hcycle, hact, hsweep, hop, hhanded, hsen⟩ := s.stopMain_stopped
  refine ⟨fun _ => ⟨hreceiver, hburst, hround, hcycle, hact, hsweep, hop, hhanded, hsen⟩, fun hb => ?_⟩
  have hclosed (z : ZoneNo) : s.closeForStop.zones[z].state ≠ .armed := by
    unfold State.closeForStop
    split
    · next hoff => exact (hb.workSound.off hoff).2.2.2 z
    · exact (s.closeArmed_closes .busStop).unarmed z
  have hzones (z : ZoneNo) : s.stopMain.zones[z].state ≠ .armed := fun hz => hclosed z ((Change.stopSen (s := s.closeForStop)).sameWork.armed z hz)
  have hbus : s.stopMain.abm.bus ≠ .stopping := by
    exact Abm.stop_bus _
  refine (State.busSound_iff _).2 ⟨?_, fun _ => ⟨hbus, hzones⟩⟩
  exact State.workSound_of_stopped hact hcycle hsweep (fun a ha => absurd (hhanded.symm.trans ha) nofun) fun _ => hzones

/-- The beginning of a cold start, whatever the supervisor makes of it. -/
theorem State.staysQuiet_coldStart (v : Ssv) : s.staysQuiet (s.beginColdStart.withSsv v) := by
  have hzones (z : ZoneNo) : (s.beginColdStart.withSsv v).zones[z].state ≠ .armed := by
    show State.reset.zones[z].state ≠ .armed
    rw [State.reset_zone]
    nofun
  refine ⟨fun _ => ⟨rfl, rfl, rfl, rfl, rfl, rfl, rfl, rfl, rfl⟩, fun _ => (State.busSound_iff _).2 ⟨?_, fun _ => ⟨nofun, hzones⟩⟩⟩
  exact State.workSound_of_stopped rfl rfl rfl nofun fun _ => hzones

/-- A warm start of a stopped domain (R193): a RUNNING bus begins a cycle. -/
theorem State.warmStart_workSound (hs : s.WorkSound) (hhanded : s.atu.handed = none) : s.warmStart.WorkSound := by
  have hstart : s.SameWork (((s.updSsv fun v => { v with domain := .running }).withLink s.link.warm).beginRound) := by
    rw [State.beginRound_frame]
    exact ⟨.refl _, rfl, fun _ => id⟩
  have hlost := (hstart.trans (State.recordLostSweep_becomes _).sameWork).trans (State.withRotation_sameWork _ 0)
  unfold State.warmStart State.warmBus
  dsimp only
  split
  · next hbus =>
    refine (hs.same hlost).beginCycle (fun hoff => absurd (hbus.symm.trans hoff) nofun) fun a ha => ?_
    exact absurd ((hhanded.symm.trans hlost.handed.symm).trans ha) nofun
  · exact hs.same hlost

theorem State.warmStart_runs (s : State) : s.warmStart.ssv.domain = .running := by
  unfold State.warmStart
  dsimp only
  rw [(State.warmBus_becomes _).keeps_ssv, State.beginRound_frame]
  rfl

/-- A start of a stopped domain, from a supervisor's state that the event has made. -/
theorem State.staysQuiet_start (hq : s.Quiescent) (hd : s.ssv.domain ≠ .running) (v : Ssv) : s.staysQuiet (s.withSsv v).start := by
  obtain ⟨-, -, -, -, -, -, -, hhanded, -⟩ := hq hd
  unfold State.start
  split
  · refine State.staysQuiet_of_running (State.warmStart_runs _) fun hw => ?_
    exact State.warmStart_workSound (hw.same ⟨.refl _, rfl, fun _ => id⟩) hhanded
  · exact s.staysQuiet_coldStart { v with markerValid := false, domain := .coldStart }

theorem State.staysQuiet.flag (h : s.staysQuiet t) (f : EventFlags → EventFlags) : s.staysQuiet (t.flag f) := h

theorem exec_staysQuiet_of_supply (hs : s.SupplySound) (hq : s.Quiescent) {i : Instr} (hi : reachOf i = .supply) :
    ∃ t, exec i s = .next t ∧ s.staysQuiet t := by
  obtain ⟨hmain, hruns, -, -, -⟩ := hs
  have same : s.staysQuiet s := ⟨hq, id⟩
  have hoff_of_absent (hp : s.ssv.mainPresent ≠ true) : s.ssv.domain = .off := by
    by_contra hn
    exact hp (hmain hn).2.1
  have hoff_of_qualifying (hp : s.ssv.qualifying = true) : s.ssv.domain = .off := by
    by_contra hn
    exact Bool.false_ne_true ((hmain hn).2.2.1.symm.trans hp)
  cases i with
  | mainSupplyLoss usable =>
    refine ⟨_, rfl, ?_⟩
    split
    · exact same
    split
    · exact State.staysQuiet_stopMain _
    split
    · exact State.staysQuiet_withSsv hq id
    · exact (State.staysQuiet_stopMain _).flag _
  | mainSupplyRise =>
    refine ⟨_, rfl, ?_⟩
    split
    · exact same
    · exact State.staysQuiet_withSsv hq id
  | retentionLoss =>
    refine ⟨_, rfl, ?_⟩
    split
    · exact same
    · exact State.staysQuiet_withSsv hq id
  | qualificationComplete =>
    refine ⟨_, rfl, ?_⟩
    split
    · next h =>
      have hd : s.ssv.domain ≠ .running := by
        rw [hoff_of_qualifying (Bool.and_eq_true_iff.1 h).1]
        nofun
      unfold State.qualified
      dsimp only
      split
      · exact State.staysQuiet_withSsv hq fun _ => hd
      · exact State.staysQuiet_start hq hd _
    · exact same
  | resetAssert =>
    refine ⟨_, rfl, ?_⟩
    split
    · exact same
    unfold State.holdReset
    split
    · exact State.staysQuiet_stopMain _
    · next hd => exact State.staysQuiet_withSsv hq fun _ => by rw [hd]; nofun
    · exact State.staysQuiet_withSsv hq id
    · exact State.staysQuiet_withSsv hq id
  | resetRelease =>
    refine ⟨_, rfl, ?_⟩
    split
    · dsimp only
      split
      · next hd =>
        have hd' : s.ssv.domain = .held := hd
        exact State.staysQuiet_start hq (by rw [hd']; nofun) _
      · exact State.staysQuiet_withSsv hq id
    · exact same
  | coldStartEnd =>
    refine ⟨_, rfl, ?_⟩
    split
    · exact (State.staysQuiet_withSsv hq fun hn => absurd rfl hn).flag _
    · exact same
  | replySent =>
    refine ⟨_, rfl, ?_⟩
    split
    · split
      · next hrun =>
        unfold State.replySent
        split
        · exact s.staysQuiet_coldStart { s.ssv with markerValid := false, domain := .coldStart }
        · have hd : s.ssv.domain = .running := by simpa [State.mainRuns] using hrun
          exact State.staysQuiet_of_running hd fun hw => hw.same ⟨.refl _, rfl, fun _ => id⟩
      · exact same
    · exact same
  | _ => cases hi

/-- What LINK's flags do not say stands in the rest of LINK. -/
theorem Link.of_besideFlags {l m : Link} (h : l.besideFlags = m.besideFlags) : l.receiver = m.receiver ∧ l.burst = m.burst := by
  simp only [Link.besideFlags, Prod.mk.injEq] at h
  obtain ⟨hreceiver, hburst, -⟩ := h
  exact ⟨hreceiver, hburst⟩

theorem State.staysQuiet_tick (hq : s.Quiescent) (c : ChannelNo) (x : Sample) : s.staysQuiet (s.tick c x) := by
  obtain ⟨hreceiver, hburst⟩ := Link.of_besideFlags (s.tick_link c x)
  have hwork := State.Reaches.sameWork (s.tick_becomes c x)
  have hframe := s.tick_frame c x
  have hssv : (s.tick c x).ssv = s.ssv := by rw [hframe]; rfl
  have htcv : (s.tick c x).tcv = s.tcv := by rw [hframe]; rfl
  have habm : (s.tick c x).abm = s.abm := by rw [hframe]; rfl
  have hatu : (s.tick c x).atu = s.atu := by rw [hframe]; rfl
  have hsen : (s.tick c x).sen = s.sen := by rw [hframe]; rfl
  refine ⟨fun hn => ?_, fun hb => ?_⟩
  · rw [hssv] at hn
    rw [hreceiver, hburst, htcv, habm, hatu, hsen]
    exact hq hn
  · obtain ⟨hw, hstopped⟩ := (State.busSound_iff s).1 hb
    refine (State.busSound_iff _).2 ⟨hw.same hwork, fun hn => ?_⟩
    rw [hssv] at hn
    obtain ⟨hbus, hzones⟩ := hstopped hn
    exact ⟨by rw [habm]; exact hbus, fun z hz => hzones z (hwork.armed z hz)⟩

theorem exec_staysQuiet (hs : s.SupplySound) (hq : s.Quiescent) (i : Instr) : ∃ t, exec i s = .next t ∧ s.staysQuiet t := by
  by_cases hi : reachOf i = .supply
  · exact exec_staysQuiet_of_supply hs hq hi
  cases hrun : s.mainRuns with
  | false =>
    rcases exec_of_stopped hrun hi with h | ⟨c, x, h⟩
    · exact ⟨s, h, hq, id⟩
    · exact ⟨_, h, State.staysQuiet_tick hq c x⟩
  | true =>
    obtain ⟨t, ht, hreach⟩ := exec_reaches i s
    have hbecomes : s.Becomes t := by
      cases hr : reachOf i with
      | supply => exact absurd hr hi
      | bus =>
        rw [hr] at hreach
        exact hreach
      | beside =>
        rw [hr] at hreach
        exact Relation.ReflTransGen.mono (r := fun a b => ∃ j, Reach.within j .beside ∧ Change a j b)
          (fun _ _ ⟨j, hj, hc⟩ => ⟨j, by cases j <;> trivial, hc⟩) _ _ hreach
    have hd : t.ssv.domain = .running := by
      rw [hbecomes.keeps_ssv]
      simpa [State.mainRuns] using hrun
    refine ⟨t, ht, State.staysQuiet_of_running hd fun hw => ?_⟩
    obtain ⟨u, hu, hwork⟩ := hw.exec hi
    cases ht.symm.trans hu
    exact hwork

end

/-- Settles O59. The supervisor's own rules are kept by every change; the quiet of a stopped domain and the work of the bus by every command. -/
theorem supplyStaysSound : Obligations.SupplyStaysSound := by
  unfold Obligations.SupplyStaysSound
  intro s t hs hstep
  refine ⟨kept_by_step (fun _ _ h => h) (fun _ _ _ => Change.supplySound) hstep hs, fun hq => ?_⟩
  unfold step at hstep
  split at hstep
  · cases hstep
    exact ⟨hq, id⟩
  · next i rest _ =>
    obtain ⟨u, hu, hquiet, hbus⟩ := exec_staysQuiet (s := s.withPending rest) hs hq i
    cases hu.symm.trans hstep
    exact ⟨hquiet, hbus⟩

end Sys2Proof.Machine

/-! SUPPORT and PROOFS. Which commands answer a request, and that a refusal changes nothing else (R173, R176). -/

namespace Sys2Proof.Machine

/-! ### Events that send nothing but the reply of FORGET NODE -/

/-- From `s` to `t` LINK has begun to send nothing but an acceptance. -/
def State.Silent (s t : State) : Prop := ∀ r, t.link.receiver = .send r → s.link.receiver = .send r ∨ r.status = .ok

section
variable {s t : State}

theorem State.Silent.refl (s : State) : s.Silent s := fun _ => .inl

theorem State.Silent.trans {u : State} (h : s.Silent t) (k : t.Silent u) : s.Silent u :=
  fun r hr => (k r hr).elim (h r) .inr

theorem State.silent_of_receiver (h : t.link.receiver = s.link.receiver) : s.Silent t := fun _ hr => .inl (h ▸ hr)

theorem State.silent_of_besideFlags (h : t.link.besideFlags = s.link.besideFlags) : s.Silent t :=
  State.silent_of_receiver (Link.of_besideFlags h).1

theorem State.silent_of_discard (h : t.link.receiver = .discard) : s.Silent t := fun _ hr => absurd (h.symm.trans hr) nofun

theorem State.BusOnly.silent (h : s.BusOnly t) : s.Silent t := State.silent_of_besideFlags h.2.2.2

theorem State.NodesOnly.silent (h : s.NodesOnly t) : s.Silent t := State.silent_of_besideFlags h.2

end

/-! The events of the line. -/

section
variable (l : Link)

/-- LINK has begun to send nothing. -/
def Link.Unsending (a b : Link) : Prop := ∀ r, b.receiver = .send r → a.receiver = .send r

theorem Link.unsending_of_ne {b : Link} (h : ∀ r, b.receiver ≠ .send r) : l.Unsending b := fun r hr => absurd hr (h r)

theorem Link.overrun_unsending : l.Unsending l.overrun := by
  unfold Link.overrun
  split <;> exact fun _ => id

theorem Link.finishFrame_unsending (bytes : List Byte) : l.Unsending (l.finishFrame bytes) := by
  unfold Link.finishFrame
  dsimp only
  split
  · split <;> exact l.unsending_of_ne fun _ => nofun
  · exact l.unsending_of_ne fun _ => nofun

theorem Link.frameByte_unsending (bytes : List Byte) (b : Byte) (bad : Bool) : l.Unsending (l.frameByte bytes b bad) := by
  unfold Link.frameByte
  split
  · exact l.unsending_of_ne fun _ => nofun
  split
  · exact l.unsending_of_ne fun _ => nofun
  split
  · exact l.finishFrame_unsending _
  · exact l.unsending_of_ne fun _ => nofun

theorem Link.byte_unsending (b : Byte) (bad : Bool) : l.Unsending (l.byte b bad) := by
  unfold Link.byte
  split
  · split
    · exact l.unsending_of_ne fun _ => nofun
    · exact fun _ => id
  · exact l.frameByte_unsending _ b bad
  · exact l.overrun_unsending
  · exact l.overrun_unsending
  · exact l.overrun_unsending
  · exact fun _ => id

theorem Link.badFrame_unsending (cause : BadFrameCause) : l.Unsending (l.badFrame cause) := by
  have habandon : l.Unsending (l.abandon (badFrameReceiver cause)) := l.unsending_of_ne fun _ => by cases cause <;> nofun
  unfold Link.badFrame
  split
  · exact habandon
  · exact habandon
  · split
    · exact fun _ => id
    · exact habandon
  all_goals exact fun _ => id

theorem Link.burstBegins_unsending : l.Unsending l.burstBegins := by
  unfold Link.burstBegins
  split
  · exact l.overrun_unsending
  · exact l.overrun_unsending
  · exact l.overrun_unsending
  all_goals exact fun _ => id

theorem Link.idle_unsending : l.Unsending l.idle := by
  unfold Link.idle
  split
  · exact l.unsending_of_ne fun _ => nofun
  · exact l.unsending_of_ne fun _ => nofun
  all_goals exact fun _ => id

end

/-! The acts and the Node Table operations. -/

section
variable (s : State)

theorem State.learn_silent (r : Option Range) (h : HereReply) : s.Silent (s.learn r h) := by
  have hentry (f : NodeEntry → NodeEntry) : s.Silent (s.updNode h.serial f) := .refl s
  have htotal (f : BusTotals → BusTotals) : s.Silent (s.countTotal f) := .refl s
  unfold State.learn
  split
  · cases r with
    | none => exact htotal _
    | some g => exact (htotal _).trans (State.splitRange_busOnly _ g _).silent
  split
  · cases r with
    | none => exact hentry _
    | some g => exact (hentry _).trans (State.startEnroll_busOnly _ g _).silent
  split
  · cases r with
    | none => exact htotal _
    | some g => exact (htotal _).trans ((State.endSweep_busOnly _ _).trans (State.flag_busOnly _ _)).silent
  · cases r <;> exact .refl s

theorem State.setToggle_silent (r : Option Range) (x : Serial) : s.Silent (s.setToggle r x) := by
  cases r <;> exact .refl s

/-- The reply of FORGET NODE is an acceptance. -/
theorem State.forgetReply_silent (op : NodeOp) : s.Silent (s.forgetReply op) := by
  unfold State.forgetReply
  split
  · intro r hr
    cases hr
    exact .inr rfl
  · exact .refl s

theorem State.opEnded_silent (op : NodeOp) (w : Nat) : s.Silent (s.opEnded op w) := by
  have hend (b : Bool) (t : State) : t.Silent (if b then t.stopOrProceed else t) := by
    split
    · exact t.stopOrProceed_busOnly.silent
    · exact .refl t
  have hcounted : s.Silent (if s.busWaits then s.elapse (max w s.counted) else s) := by split <;> exact .refl s
  have hchanged (t : State) : t.Silent (t.tableChanged op) := by
    rw [State.tableChanged_frame]
    exact .refl t
  have hafter (t : State) : t.Silent t.afterInsertion := by
    unfold State.afterInsertion
    split
    · exact ((t.withAbm_busOnly _).trans (State.startEnroll_busOnly _ _ _)).silent
    all_goals exact .refl t
  exact (((hcounted.trans (hchanged _)).trans (State.forgetReply_silent _ op)).trans (hafter _)).trans (hend _ _)

end

/-! The converter's gates. -/

section
variable (s : State)

theorem State.nextGate_silent (r : Round) : s.Silent (s.nextGate r) := by
  rw [State.nextGate_frame]
  exact State.silent_of_receiver rfl

theorem State.takePair_silent (c : ChannelNo) (f r : SensorResult) : s.Silent (s.takePair c f r) := by
  unfold State.takePair
  split
  · exact .refl s
  · dsimp only
    split <;> exact State.silent_of_receiver rfl

theorem State.sensorGateEnd_silent (n : SensorNo) (r : Round) (ts : Option Nat) : s.Silent (s.sensorGateEnd n r ts) := by
  have hrecord (v : Tcv) : s.Silent (s.withTcv v) := State.silent_of_receiver rfl
  unfold State.sensorGateEnd
  dsimp only
  split
  · split
    · exact ((hrecord _).trans (State.takePair_silent _ _ _ _)).trans (State.nextGate_silent _ _)
    · exact (hrecord _).trans (State.nextGate_silent _ _)
  · exact (hrecord _).trans (State.nextGate_silent _ _)

end

theorem State.postSettlement_link (s : State) (z : ZoneNo) (g : Gathered) (f : FixedParts) (c : ConsumptionParts) (a : Bands (List Nat)) :
    (s.postSettlement z g f c a).link = s.link := by
  unfold State.postSettlement
  rw [State.withRecords_link, State.postAll_frame]
  rfl

/-! The supervisor. -/

section
variable {s : State}

theorem State.recordLostSweep_silent (s : State) : s.Silent s.recordLostSweep := by
  unfold State.recordLostSweep
  split
  · exact State.silent_of_receiver rfl
  · exact .refl s

theorem State.warmBus_silent (s : State) : s.Silent s.warmBus := by
  unfold State.warmBus
  dsimp only
  split
  · exact s.recordLostSweep_silent.trans ((State.withAbm_busOnly _ _).trans (State.beginCycle_busOnly _)).silent
  · exact s.recordLostSweep_silent.trans (State.withAbm_busOnly _ _).silent

theorem State.warmStart_silent (s : State) : s.Silent s.warmStart := by
  unfold State.warmStart
  dsimp only
  refine State.Silent.trans (State.silent_of_discard ?_) (State.warmBus_silent _)
  rw [State.beginRound_frame]
  rfl

theorem State.start_silent (v : Ssv) : s.Silent (s.withSsv v).start := by
  unfold State.start
  split
  · exact (s.withSsv v).warmStart_silent
  · exact State.silent_of_discard rfl

theorem exec_silent_of_supply {i : Instr} (hi : reachOf i = .supply) : ∃ t, exec i s = .next t ∧ s.Silent t := by
  have hstop (v : Ssv) : s.Silent (s.stopMain.withSsv v) := State.silent_of_discard s.stopMain_stopped.1
  cases i with
  | mainSupplyLoss usable =>
    refine ⟨_, rfl, ?_⟩
    split
    · exact .refl s
    split
    · exact hstop _
    split
    · exact .refl s
    · exact State.silent_of_discard s.stopMain_stopped.1
  | mainSupplyRise | retentionLoss | coldStartEnd =>
    refine ⟨_, rfl, ?_⟩
    split <;> exact .refl s
  | qualificationComplete =>
    refine ⟨_, rfl, ?_⟩
    split
    · unfold State.qualified
      dsimp only
      split
      · exact .refl s
      · exact State.start_silent _
    · exact .refl s
  | resetAssert =>
    refine ⟨_, rfl, ?_⟩
    split
    · exact .refl s
    unfold State.holdReset
    split
    · exact hstop _
    all_goals exact .refl s
  | resetRelease =>
    refine ⟨_, rfl, ?_⟩
    split
    · dsimp only
      split
      · exact State.start_silent _
      · exact .refl s
    · exact .refl s
  | replySent =>
    refine ⟨_, rfl, ?_⟩
    split
    · split
      · unfold State.replySent
        split
        · exact State.silent_of_discard rfl
        · intro r hr
          change (if s.link.burst then Receiver.discard else .hunt) = .send r at hr
          split at hr <;> cases hr
      · exact .refl s
    · exact .refl s
  | _ => cases hi

theorem exec_silent {i : Instr} (hreq : isRequest i ≠ true) : ∃ t, exec i s = .next t ∧ s.Silent t := by
  have guarded (c : Bool) (t : State) (h : s.Silent t) : s.Silent (if c then t else s) := by
    split
    · exact h
    · exact .refl s
  have linked {l : Link} (h : s.link.Unsending l) : s.Silent (s.withLink l) := fun r hr => .inl (h r hr)
  have ticked (c : ChannelNo) (x : Sample) : s.Silent (s.tick c x) := State.silent_of_besideFlags (s.tick_link c x)
  have candidate (c : ChannelNo) (b : Bool) : s.Silent (s.candidateTick c b) := by
    unfold State.candidateTick
    split
    · exact guarded _ _ (ticked _ _)
    · exact .refl s
  have gated (r : Round) : s.Silent (s.nextGate r) := s.nextGate_silent r
  have sensed (n : SensorNo) (r : Round) (ts : Option Nat) : s.Silent (s.sensorGateEnd n r ts) := s.sensorGateEnd_silent n r ts
  cases i with
  | mainSupplyLoss | mainSupplyRise | qualificationComplete | retentionLoss | resetAssert | resetRelease | coldStartEnd | replySent =>
    exact exec_silent_of_supply rfl
  | badFrame cause => exact ⟨_, rfl, guarded _ _ (linked (s.link.badFrame_unsending cause))⟩
  | linkOverrun => exact ⟨_, rfl, guarded _ _ (linked s.link.burstBegins_unsending)⟩
  | lineIdle => exact ⟨_, rfl, guarded _ _ (linked s.link.idle_unsending)⟩
  | byteReceived b bad => exact ⟨_, rfl, guarded _ _ (linked (s.link.byte_unsending b bad))⟩
  | tick c x => exact ⟨_, rfl, ticked c x⟩
  | acceptedChange c => exact ⟨_, rfl, candidate c _⟩
  | inputSettling c => exact ⟨_, rfl, candidate c _⟩
  | noFlow c x =>
    refine ⟨_, rfl, ?_⟩
    split
    · exact ticked c x
    · exact .refl s
  | referenceGate n =>
    refine ⟨_, rfl, ?_⟩
    split
    · split
      · exact gated _
      · exact .refl s
    · exact .refl s
  | gateComplete n =>
    refine ⟨_, rfl, ?_⟩
    split
    · split
      · exact sensed _ _ _
      · exact .refl s
    · exact .refl s
  | gateOverflow =>
    refine ⟨_, rfl, ?_⟩
    split
    · split
      · exact gated _
      · exact sensed _ _ _
    · exact .refl s
  | beaconInstant => exact ⟨_, rfl, guarded _ _ s.beginCycle_busOnly.silent⟩
  | beaconSent => exact ⟨_, rfl, guarded _ _ s.beaconSent_busOnly.silent⟩
  | readTransactionStart =>
    refine ⟨_, rfl, ?_⟩
    split
    · exact guarded _ _ (s.pollNext_busOnly _).silent
    · exact .refl s
  | reading | here | enrolled | replyTimeout | replyWindowClose => exact ⟨_, rfl, (s.receive_busOnly _ _).silent⟩
  | attemptEnd =>
    refine ⟨_, rfl, ?_⟩
    split
    · exact guarded _ _ (s.attemptEnd_busOnly _ _ _).silent
    · exact .refl s
  | acceptanceAct =>
    refine ⟨_, rfl, ?_⟩
    split
    · exact guarded _ _ ((s.withAtu_nodesOnly _).trans (State.accepted_nodesOnly _ _)).silent
    · exact .refl s
  | missAct =>
    refine ⟨_, rfl, ?_⟩
    split
    · exact guarded _ _ ((s.withAtu_nodesOnly _).trans (State.missed_nodesOnly _ _)).silent
    · exact .refl s
  | learning =>
    refine ⟨_, rfl, ?_⟩
    split
    · exact guarded _ _ (((s.hand_busOnly none).silent.trans (State.learn_silent _ _ _)).trans (State.stopOrProceed_busOnly _).silent)
    · exact .refl s
  | setExpectedToggle =>
    refine ⟨_, rfl, ?_⟩
    split
    · exact guarded _ _ (((s.hand_busOnly none).silent.trans (State.setToggle_silent _ _ _)).trans (State.stopOrProceed_busOnly _).silent)
    · exact .refl s
  | nodeTableOpEnd w =>
    refine ⟨_, rfl, ?_⟩
    split
    · exact guarded _ _ (s.opEnded_silent _ _)
    · exact .refl s
  | senTakeZone =>
    refine ⟨_, rfl, guarded _ _ ?_⟩
    rw [State.takeZone_frame]
    exact .refl s
  | gather | fixed | consumption | area | standing | release =>
    refine ⟨_, rfl, ?_⟩
    split <;> exact .refl s
  | post =>
    refine ⟨_, rfl, ?_⟩
    split
    · next z g f c a _ _ _ _ _ => exact State.silent_of_receiver (congrArg Link.receiver (s.postSettlement_link z g f c a))
    · exact .refl s
  | _ => exact absurd rfl hreq

end

/-- Settles O4. An event begins no refusal, and an owner that refuses has changed nothing. -/
theorem refusalChangesNothing : Obligations.RefusalChangesNothing := by
  unfold Obligations.RefusalChangesNothing
  intro i s t r hexec hfree hsend hst
  by_cases hreq : isRequest i = true
  · obtain ⟨type, owner, hrequest, hproper⟩ := exec_request hreq
    rw [hrequest] at hexec
    cases hexec
    refine ⟨type, ?_⟩
    cases htake : s.canTake i with
    | false =>
      rw [State.take_of_not type owner htake] at hsend
      exact absurd hsend (hfree r)
    | true =>
      have hanswer := hproper s.arrive
      cases howner : owner s.arrive with
      | wait u =>
        rw [State.take_wait htake howner] at hsend
        cases hsend
      | reply st c u =>
        rw [State.take_reply htake howner] at hsend ⊢
        cases hsend
        rw [howner] at hanswer
        cases hanswer with
        | refused => exact s.arrive_reply type _ _
        | done => exact absurd rfl hst
  · obtain ⟨u, hu, hsilent⟩ := exec_silent (s := s) hreq
    cases hexec.symm.trans hu
    exact (hsilent r hsend).elim (fun h => absurd h (hfree r)) fun h => absurd h hst

end Sys2Proof.Machine

/-! SUPPORT and PROOFS. Frames on the host link: the bytes of the catalogue's requests, and the reception of a frame byte by byte (R170 to R179). -/

namespace Sys2Proof.Machine

/-! ### The bytes of a field (R178) -/

theorem le16_bytes (w : Word16) : le16 (w.extractLsb' 0 8) (w.extractLsb' 8 8) = w := by
  unfold le16
  rw [BitVec.extractLsb'_append_extractLsb'_eq_extractLsb' (by rfl)]
  exact BitVec.extractLsb'_eq_self

theorem le32_bytes (w : BitVec 32) : le32 (w.extractLsb' 0 8) (w.extractLsb' 8 8) (w.extractLsb' 16 8) (w.extractLsb' 24 8) = w := by
  unfold le32
  rw [BitVec.extractLsb'_append_extractLsb'_eq_extractLsb' (by rfl), BitVec.extractLsb'_append_extractLsb'_eq_extractLsb' (by rfl),
    BitVec.extractLsb'_append_extractLsb'_eq_extractLsb' (by rfl)]
  exact BitVec.extractLsb'_eq_self

theorem le40_bytes (w : BitVec 40) :
    le40 (w.extractLsb' 0 8) (w.extractLsb' 8 8) (w.extractLsb' 16 8) (w.extractLsb' 24 8) (w.extractLsb' 32 8) = w := by
  unfold le40
  rw [BitVec.extractLsb'_append_extractLsb'_eq_extractLsb' (by rfl), BitVec.extractLsb'_append_extractLsb'_eq_extractLsb' (by rfl),
    BitVec.extractLsb'_append_extractLsb'_eq_extractLsb' (by rfl), BitVec.extractLsb'_append_extractLsb'_eq_extractLsb' (by rfl)]
  exact BitVec.extractLsb'_eq_self

theorem take40_bytes40 (w : BitVec 40) (l : List Byte) : take40 (bytes40 w ++ l) = some (w, l) := by
  show some (le40 _ _ _ _ _, l) = _
  rw [le40_bytes]

theorem takeEnergies_bytes40 (es : Vector (BitVec 40) 4) (l : List Byte) :
    takeEnergies (bytes40 es[0] ++ bytes40 es[1] ++ bytes40 es[2] ++ bytes40 es[3] ++ l) = some (es, l) := by
  have hes : #v[es[0], es[1], es[2], es[3]] = es := by
    ext i hi
    match i with
    | 0 | 1 | 2 | 3 => rfl
  simp only [takeEnergies, List.append_assoc, take40_bytes40, Option.bind_eq_bind, Option.bind_some, hes]
  rfl

/-! ### SETTLE's body (R179) -/

theorem three_le_length_encodeEntry (e : SettleEntry) : 3 ≤ (encodeEntry e).length := by
  unfold encodeEntry
  split <;> simp

theorem walkEntries_cons (e : SettleEntry) (n : Nat) (l : List Byte) :
    walkEntries (n + 1) (encodeEntry e ++ l) = (walkEntries n l).map (e :: ·) := by
  obtain ⟨zone, timing, standing, energies⟩ := e
  cases standing with
  | none =>
    cases energies with
    | none => rfl
    | some es =>
      show ((takeEnergies (bytes40 es[0] ++ bytes40 es[1] ++ bytes40 es[2] ++ bytes40 es[3] ++ l)).bind fun x =>
        (walkEntries n x.2).map (⟨zone, timing, none, some x.1⟩ :: ·)) = _
      rw [takeEnergies_bytes40]
      rfl
  | some w =>
    cases energies with
    | none =>
      show ((take40 (bytes40 w ++ l)).bind fun x => (walkEntries n x.2).map (⟨zone, timing, some x.1, none⟩ :: ·)) = _
      rw [take40_bytes40]
      rfl
    | some es =>
      show ((take40 (bytes40 w ++ (bytes40 es[0] ++ bytes40 es[1] ++ bytes40 es[2] ++ bytes40 es[3] ++ l))).bind fun x =>
        (takeEnergies x.2).bind fun y => (walkEntries n y.2).map (⟨zone, timing, some x.1, some y.1⟩ :: ·)) = _
      rw [take40_bytes40, Option.bind_some, takeEnergies_bytes40]
      rfl

theorem walkEntries_encode (es : List SettleEntry) : walkEntries es.length (es.flatMap encodeEntry) = some es := by
  induction es with
  | nil => rfl
  | cons e es ih =>
    rw [List.flatMap_cons, List.length_cons, walkEntries_cons, ih]
    rfl

theorem length_flatMap_encodeEntry (es : List SettleEntry) : 3 * es.length ≤ (es.flatMap encodeEntry).length := by
  induction es with
  | nil => simp
  | cons e es ih =>
    have := three_le_length_encodeEntry e
    rw [List.flatMap_cons, List.length_append, List.length_cons]
    omega

/-- A body that fits a frame holds few enough entries for its count byte. -/
theorem decodeSettle_encode {es : List SettleEntry} (h : 1 + (es.flatMap encodeEntry).length ≤ 249) :
    decodeSettle (BitVec.ofNat 8 es.length :: es.flatMap encodeEntry) = .entries es := by
  have hlen := length_flatMap_encodeEntry es
  have hcount : (BitVec.ofNat 8 es.length).toNat = es.length := by
    rw [BitVec.toNat_ofNat]
    omega
  show (match walkEntries (BitVec.ofNat 8 es.length).toNat (es.flatMap encodeEntry) with
    | some es => SettleBody.entries es
    | none => _) = _
  rw [hcount, walkEntries_encode]

/-- Settles O6. A field of two or four bytes is read back from them, and a SETTLE body by the walk over its entries. -/
theorem requestRoundTrip : Obligations.RequestRoundTrip := by
  unfold Obligations.RequestRoundTrip
  intro i type body henc hwf
  cases i with
  | settle b =>
    cases b with
    | malformed n => cases henc
    | entries es =>
      cases henc
      have hfits : 1 + (es.flatMap encodeEntry).length ≤ 249 := by
        simpa [Instr.wellFormed, SettleBody.fits, SettleBody.length] using hwf
      refine ⟨congrArg Instr.settle (decodeSettle_encode hfits), ?_, rfl⟩
      rw [List.length_cons]
      omega
  | setEventMask m => cases henc; exact ⟨congrArg Instr.setEventMask (le16_bytes m), Nat.le_of_ble_eq_true rfl, rfl⟩
  | configureChannel c m z v k d f p n fil e =>
    cases henc
    refine ⟨?_, Nat.le_of_ble_eq_true rfl, rfl⟩
    show Instr.configureChannel c m z (le16 _ _) (le16 _ _) (le16 _ _) (le16 _ _) (le16 _ _) (le16 _ _) fil e = _
    simp only [le16_bytes]
  | configureConverter g h =>
    cases henc
    exact ⟨congrArg (Instr.configureConverter · h) (le16_bytes g), Nat.le_of_ble_eq_true rfl, rfl⟩
  | setCalibration n a b =>
    cases henc
    exact ⟨congrArg₂ (Instr.setCalibration n) (le16_bytes a) (le32_bytes b), Nat.le_of_ble_eq_true rfl, rfl⟩
  | defineZone z m f x =>
    cases henc
    exact ⟨congrArg (Instr.defineZone z m · x) (le16_bytes f), Nat.le_of_ble_eq_true rfl, rfl⟩
  | addMember z a r =>
    cases henc
    exact ⟨congrArg (Instr.addMember z a) (le16_bytes r), Nat.le_of_ble_eq_true rfl, rfl⟩
  | setPrices m a b c d =>
    cases henc
    refine ⟨?_, Nat.le_of_ble_eq_true rfl, rfl⟩
    show Instr.setPrices m (le16 _ _) (le16 _ _) (le16 _ _) (le16 _ _) = _
    simp only [le16_bytes]
  | writePoint i x z k a f =>
    cases henc
    exact ⟨congrArg₂ (Instr.writePoint i · z k a ·) (le32_bytes x) (le16_bytes f), Nat.le_of_ble_eq_true rfl, rfl⟩
  | configureBus l g r c a w =>
    cases henc
    exact ⟨congrArg₂ (Instr.configureBus · · r c a w) (le16_bytes l) (le16_bytes g), Nat.le_of_ble_eq_true rfl, rfl⟩
  | readNode sel k =>
    cases henc
    exact ⟨congrArg (Instr.readNode sel) (le32_bytes k), Nat.le_of_ble_eq_true rfl, rfl⟩
  | releaseNode x d =>
    cases henc
    exact ⟨congrArg (Instr.releaseNode · d) (le32_bytes x), Nat.le_of_ble_eq_true rfl, rfl⟩
  | forgetNode x =>
    cases henc
    exact ⟨congrArg Instr.forgetNode (le32_bytes x), Nat.le_of_ble_eq_true rfl, rfl⟩
  | unknownRequest | badFrame | linkOverrun | lineIdle | replySent | mainSupplyLoss | mainSupplyRise | qualificationComplete | retentionLoss
  | resetAssert | resetRelease | coldStartEnd | acceptedChange | inputSettling | noFlow | referenceGate | gateComplete | gateOverflow
  | beaconInstant | beaconSent | readTransactionStart | reading | here | enrolled | replyTimeout | replyWindowClose | attemptEnd
  | acceptanceAct | missAct | learning | setExpectedToggle | nodeTableOpEnd | senTakeZone | gather | fixed | consumption | area | standing
  | post | release | tick | byteReceived => cases henc
  | _ =>
    cases henc
    exact ⟨rfl, Nat.le_of_ble_eq_true rfl, rfl⟩

/-! ### LINK's events by the state of the receiver (R172, R175) -/

section
variable {l : Link} {b : Byte} {bad : Bool} {cause : BadFrameCause}

theorem Link.byte_of_hunt (h : l.receiver = .hunt) :
    l.byte b bad = if b = 0xA5#8 ∧ bad = false then l.goTo (.receive []) else l.addNoise := by
  unfold Link.byte
  rw [h]

theorem Link.byte_of_receive {bytes : List Byte} (h : l.receiver = .receive bytes) : l.byte b bad = l.frameByte bytes b bad := by
  unfold Link.byte
  rw [h]

theorem Link.byte_of_discard (h : l.receiver = .discard) : l.byte b bad = l := by
  unfold Link.byte
  rw [h]

theorem Link.byte_of_busy (h : l.isBusy) : l.byte b bad = l.overrun := by
  unfold Link.byte
  rcases h with ⟨r, h⟩ | ⟨ty, body, h⟩ | ⟨ty, h⟩
  all_goals rw [h]

theorem Link.overrun_of_quiet (h : l.burst = false) :
    l.overrun = { l with burst := true, overruns := inc32 l.overruns, flags := { l.flags with linkOverrun := true } } := by
  unfold Link.overrun
  rw [if_neg (by rw [h]; nofun)]
  rfl

theorem Link.overrun_of_burst (h : l.burst = true) : l.overrun = l := if_pos h

/-- A byte that does not complete the frame. -/
theorem Link.byte_of_incomplete {len : Byte} {rest : List Byte} (h : l.receiver = .receive (len :: rest)) (hlen : rest.length + 1 < len.toNat + 2) :
    l.byte b false = l.goTo (.receive (len :: rest ++ [b])) := by
  have hmore : frameComplete (len :: rest ++ [b]) = false := by
    simp only [List.cons_append, frameComplete, List.length_append, List.length_singleton, beq_eq_false_iff_ne]
    omega
  rw [Link.byte_of_receive h]
  unfold Link.frameByte
  rw [if_neg nofun, if_neg (fun h => absurd h.1 nofun), hmore, if_neg nofun]

/-- The second byte of the CRC completes the frame, which is then judged. -/
theorem Link.byte_of_complete {len lo : Byte} {covered : List Byte} (h : l.receiver = .receive (len :: covered ++ [lo]))
    (hlen : covered.length = len.toNat) : l.byte b false =
      if [lo, b] = bytes16 (crc16 (len :: covered)) then
        match len :: covered with
        | _ :: type :: body => l.soundFrame type body
        | _ => l.abandon .hunt
      else l.abandon .hunt := by
  have hdone : frameComplete (len :: covered ++ [lo] ++ [b]) = true := by
    simp [frameComplete, hlen]
  have hsplit : len :: covered ++ [lo] ++ [b] = (len :: covered) ++ [lo, b] := by simp
  have hcut : (len :: covered ++ [lo] ++ [b]).length - 2 = (len :: covered).length := by simp
  rw [Link.byte_of_receive h]
  unfold Link.frameByte
  rw [if_neg nofun, if_neg (fun h => absurd h.1 nofun), if_pos hdone]
  unfold Link.finishFrame
  dsimp only
  rw [hcut, hsplit, List.drop_left, List.take_left] <;> rfl

theorem badFrameReceiver_eq (cause : BadFrameCause) :
    badFrameReceiver cause = if cause = .badLength ∨ cause = .framingError then .discard else .hunt := by
  cases cause <;> rfl

theorem Link.badFrame_of_empty (h : l.receiver = .hunt ∨ l.receiver = .receive []) :
    l.badFrame cause = l.abandon (if cause = .badLength ∨ cause = .framingError then .discard else .hunt) := by
  rw [← badFrameReceiver_eq]
  unfold Link.badFrame
  rcases h with h | h
  all_goals rw [h]

theorem Link.badFrame_of_begun {len : Byte} {bytes : List Byte} (h : l.receiver = .receive (len :: bytes)) :
    l.badFrame cause = if cause = .badLength then l else l.abandon (if cause = .framingError then .discard else .hunt) := by
  have hreceiver : l.badFrame cause = if cause = .badLength then l else l.abandon (badFrameReceiver cause) := by
    unfold Link.badFrame
    rw [h]
  rw [hreceiver]
  cases cause <;> rfl

theorem Link.badFrame_of_still (h : l.isBusy ∨ l.receiver = .discard) : l.badFrame cause = l := by
  unfold Link.badFrame
  rcases h with (⟨r, h⟩ | ⟨ty, body, h⟩ | ⟨ty, h⟩) | h
  all_goals rw [h]

theorem Link.burstBegins_of_busy (h : l.isBusy) : l.burstBegins = l.overrun := by
  unfold Link.burstBegins
  rcases h with ⟨r, h⟩ | ⟨ty, body, h⟩ | ⟨ty, h⟩
  all_goals rw [h]

theorem Link.burstBegins_of_still (h : ¬l.isBusy) : l.burstBegins = l := by
  unfold Link.burstBegins
  split
  · next hr => exact absurd (.inr (.inl ⟨_, _, hr⟩)) h
  · next hr => exact absurd (.inr (.inr ⟨_, hr⟩)) h
  · next hr => exact absurd (.inl ⟨_, hr⟩) h
  all_goals rfl

theorem Link.idle_of_discard (h : l.receiver = .discard) : l.idle = { l with receiver := .hunt, burst := false } := by
  unfold Link.idle
  rw [h]

theorem Link.idle_of_receive {bytes : List Byte} (h : l.receiver = .receive bytes) :
    l.idle = { l with receiver := .hunt, burst := false, badFrames := inc32 l.badFrames } := by
  unfold Link.idle
  rw [h]
  rfl

theorem Link.idle_of_other (h : l.isBusy ∨ l.receiver = .hunt) : l.idle = { l with burst := false } := by
  unfold Link.idle
  rcases h with (⟨r, h⟩ | ⟨ty, body, h⟩ | ⟨ty, h⟩) | h
  all_goals rw [h]

end

section
variable {s : State} (hrun : s.mainRuns = true)
include hrun

theorem exec_byteReceived (b : Byte) (bad : Bool) : exec (.byteReceived b bad) s = .next (s.withLink (s.link.byte b bad)) :=
  congrArg _ (if_pos hrun)

theorem exec_badFrame (cause : BadFrameCause) : exec (.badFrame cause) s = .next (s.withLink (s.link.badFrame cause)) :=
  congrArg _ (if_pos hrun)

theorem exec_linkOverrun : exec .linkOverrun s = .next (s.withLink s.link.burstBegins) := congrArg _ (if_pos hrun)

theorem exec_lineIdle : exec .lineIdle s = .next (s.withLink s.link.idle) := congrArg _ (if_pos hrun)

theorem exec_replySent {r : Reply} (h : s.link.receiver = .send r) : exec .replySent s = .next (s.replySent r) := by
  show Host.Outcome.next (match s.link.receiver with
    | .send r => if s.mainRuns then s.replySent r else s
    | _ => s) = _
  rw [h]
  exact congrArg _ (if_pos hrun)

end

/-- Settles O8. -/
theorem lineEvents : Obligations.LineEvents := by
  unfold Obligations.LineEvents
  refine ⟨fun b bad s hrun => ?_, fun s hrun => ?_⟩
  · rw [exec_byteReceived hrun]
    refine ⟨fun h hb hbad => ?_, fun h hb => ?_, fun bytes h hbad => ?_, fun h hb => ?_, fun h hbad hb1 hb2 => ?_, fun len rest h hbad hlen => ?_,
      fun len covered lo h hbad hlen => ⟨fun hcrc => ?_, fun ty body hcov hcrc => ?_⟩, fun h hq => ?_, fun h hq => ?_, fun h => ?_⟩
    · rw [Link.byte_of_hunt h, if_pos ⟨hb, hbad⟩]
      rfl
    · rw [Link.byte_of_hunt h, if_neg]
      · rfl
      · rintro ⟨hb', hbad'⟩
        exact hb.elim (fun k => k hb') fun k => Bool.false_ne_true (hbad'.symm.trans k)
    · rw [Link.byte_of_receive h, Link.frameByte, if_pos hbad]
      rfl
    · rw [Link.byte_of_receive h, Link.frameByte]
      split
      · rfl
      · rw [if_pos ⟨rfl, hb⟩]
        rfl
    · have hne : ¬(b = 0#8 ∨ 250 < b.toNat) := by
        rintro (rfl | hlong)
        · cases hb1
        · omega
      have hmore : frameComplete [b] = false := rfl
      rw [Link.byte_of_receive h, Link.frameByte, if_neg (by rw [hbad]; nofun), if_neg fun k => hne k.2, List.nil_append, hmore, if_neg nofun]
      rfl
    · rw [hbad, Link.byte_of_incomplete h hlen]
      rfl
    · rw [hbad, Link.byte_of_complete h hlen, if_neg hcrc]
      rfl
    · rw [hbad, Link.byte_of_complete h hlen, if_pos hcrc, hcov]
      rfl
    · rw [Link.byte_of_busy h, Link.overrun_of_quiet hq]
    · rw [Link.byte_of_busy h, Link.overrun_of_burst hq]
      rfl
    · rw [Link.byte_of_discard h]
      rfl
  · refine ⟨fun cause h => ?_, fun cause len bytes h => ⟨fun hc => ?_, fun hc => ?_⟩, fun cause h => ?_, fun h hq => ?_, fun h => ?_, fun h => ?_,
      fun bytes h => ?_, fun h => ?_, fun r h hr => ?_⟩
    · rw [exec_badFrame hrun, Link.badFrame_of_empty h]
      rfl
    · rw [exec_badFrame hrun, Link.badFrame_of_begun h, if_neg hc]
      rfl
    · rw [exec_badFrame hrun, Link.badFrame_of_begun h, if_pos hc]
      rfl
    · rw [exec_badFrame hrun, Link.badFrame_of_still h]
      rfl
    · rw [exec_linkOverrun hrun, Link.burstBegins_of_busy h, Link.overrun_of_quiet hq]
    · rw [exec_linkOverrun hrun]
      by_cases hbusy : s.link.isBusy
      · rw [Link.burstBegins_of_busy hbusy, Link.overrun_of_burst (h.resolve_left (not_not.2 hbusy))]
        rfl
      · rw [Link.burstBegins_of_still hbusy]
        rfl
    · rw [exec_lineIdle hrun, Link.idle_of_discard h]
    · rw [exec_lineIdle hrun, Link.idle_of_receive h]
    · rw [exec_lineIdle hrun, Link.idle_of_other h]
    · have hclear : r.isFactoryClear = false := by simpa [Reply.isFactoryClear] using hr
      rw [exec_replySent hrun h, State.replySent, hclear]
      rfl

/-! ### A frame from its first byte to its last (R171, R172) -/

/-- A run whose first step goes to `t` is a run from `t`. -/
theorem run_succ_of_next (M : Host.Core) (k : Nat) {s t : M.State} (h : M.step s = .next t) : M.run (k + 1) s = M.run k t := by
  rw [Host.Core.run, h]

/-- Bytes in the queue of commands are received one after another. -/
theorem run_bytes (bs : List Byte) (s : State) (hrun : s.mainRuns = true) (hpending : s.pending = bs.map fun b => .byteReceived b false) :
    runsTo bs.length s ((s.withPending []).withLink (bs.foldl (fun l b => l.byte b false) s.link)) := by
  induction bs generalizing s with
  | nil =>
    have hs : s.withPending [] = s := by
      rw [List.map_nil] at hpending
      rw [← hpending]
      rfl
    show Host.Outcome.next s = .next (s.withPending [])
    rw [hs]
  | cons b bs ih =>
    have hstep : step s = .next ((s.withPending (bs.map fun b => .byteReceived b false)).withLink (s.link.byte b false)) := by
      rw [stepRunsFront _ _ s hpending]
      exact exec_byteReceived (s := s.withPending (bs.map fun b => .byteReceived b false)) hrun b false
    have hrest := ih ((s.withPending (bs.map fun b => .byteReceived b false)).withLink (s.link.byte b false)) hrun rfl
    exact (run_succ_of_next Sys2Proof.core bs.length hstep).trans hrest

/-- The bytes between LEN and the last of a frame. -/
theorem foldl_byte_of_incomplete (xs : List Byte) (l : Link) {len : Byte} {rest : List Byte} (h : l.receiver = .receive (len :: rest))
    (hlen : rest.length + xs.length < len.toNat + 2) :
    xs.foldl (fun l b => l.byte b false) l = l.goTo (.receive (len :: rest ++ xs)) := by
  induction xs generalizing l rest with
  | nil =>
    rw [List.append_nil, ← h]
    rfl
  | cons x xs ih =>
    rw [List.length_cons] at hlen
    rw [List.foldl_cons, Link.byte_of_incomplete h (by omega)]
    have hnext := ih (l.goTo (.receive (len :: rest ++ [x]))) (rest := rest ++ [x]) rfl (by
      rw [List.length_append, List.length_singleton]
      omega)
    have hassoc : len :: (rest ++ [x]) ++ xs = len :: rest ++ x :: xs := by simp
    rw [hnext, hassoc]
    rfl

/-- Settles O7. LEN opens the frame, the bytes up to the first of the CRC are kept, and its second byte ends the frame as sound. -/
theorem frameReception : Obligations.FrameReception := by
  unfold Obligations.FrameReception
  intro type body s hrun hhunt hlen hpending
  have hlenByte : (BitVec.ofNat 8 (body.length + 1)).toNat = body.length + 1 := by
    rw [BitVec.toNat_ofNat]
    omega
  obtain ⟨lo, hi, hcrc⟩ : ∃ lo hi, bytes16 (crc16 (BitVec.ofNat 8 (body.length + 1) :: type :: body)) = [lo, hi] := ⟨_, _, rfl⟩
  have hframe : hostFrame type body = 0xA5#8 :: BitVec.ofNat 8 (body.length + 1) :: ((type :: body ++ [lo]) ++ [hi]) := by
    unfold hostFrame
    dsimp only
    rw [hcrc]
    simp
  have hlength : (hostFrame type body).length = body.length + 5 := by
    rw [hframe]
    simp
  have hfold : (hostFrame type body).foldl (fun l b => l.byte b false) s.link =
      { s.link with receiver := .process type body, framesTaken := inc32 s.link.framesTaken } := by
    rw [hframe, List.foldl_cons, Link.byte_of_hunt hhunt, if_pos ⟨rfl, rfl⟩, List.foldl_cons]
    have hopen : (s.link.goTo (.receive [])).byte (BitVec.ofNat 8 (body.length + 1)) false =
        s.link.goTo (.receive [BitVec.ofNat 8 (body.length + 1)]) := by
      have hne : ¬(BitVec.ofNat 8 (body.length + 1) = 0#8 ∨ 250 < (BitVec.ofNat 8 (body.length + 1)).toNat) := by
        rw [hlenByte, BitVec.toNat_eq, hlenByte]
        simp only [BitVec.toNat_ofNat]
        omega
      rw [Link.byte_of_receive rfl, Link.frameByte, if_neg nofun, if_neg fun k => hne k.2]
      rfl
    rw [hopen, List.foldl_append,
      foldl_byte_of_incomplete (type :: body ++ [lo]) _ (len := BitVec.ofNat 8 (body.length + 1)) (rest := []) rfl (by
        rw [hlenByte]
        simp)]
    rw [List.foldl_cons, List.foldl_nil, Link.byte_of_complete (len := BitVec.ofNat 8 (body.length + 1)) (covered := type :: body) (lo := lo) rfl (by rw [hlenByte]; rfl),
      if_pos hcrc.symm]
    rfl
  have hruns := run_bytes _ s hrun hpending
  rw [hlength, hfold] at hruns
  exact hruns

end Sys2Proof.Machine

/-! SUPPORT and PROOFS. The requests LINK owns: IDENTIFY, READ EVENTS, SET EVENT MASK, READ COUNTERS and FACTORY CLEAR (R180 to R186). -/

namespace Sys2Proof.Machine

/-! ### The ends of a taken request -/

section Ends
variable {s : State} {i : Instr} {type : Byte} {owner : State → Answer}

/-- A taken request whose owner carries out `f`, which neither reads nor changes LINK. -/
theorem State.next_take_of_done {c : Content} (f : State → State) (h : s.canTake i = true)
    (ho : ∀ l : Link, owner (s.withLink l) = accept c (f (s.withLink l)))
    (hl : ∀ l m : Link, (f (s.withLink l)).withLink m = (f s).withLink m) (hk : ∀ l : Link, (f (s.withLink l)).link = l) :
    Host.Outcome.next (s.take i type owner) = (.next ((f s).withLink (s.link.answered type .ok c)) : Host.Outcome State Fault Refusal) :=
  congrArg _ (State.take_accept h ho hl hk)

/-- LINK as the owner of a request finds it: the frame that has just come in is counted. -/
def Link.arrived (l : Link) : Link := { l with framesTaken := if l.receiver = .hunt then inc32 l.framesTaken else l.framesTaken }

theorem State.arrive_eq (s : State) : s.arrive = s.withLink s.link.arrived := by
  rw [State.arrive_frame, State.arrive_link]
  rfl

/-- A taken request whose owner answers at once, LINK being among what it reads or changes. -/
theorem State.next_take_of_reply {st : Status} {c : Content} {t : State} (h : s.canTake i = true)
    (ho : owner (s.withLink s.link.arrived) = .reply st c t) :
    Host.Outcome.next (s.take i type owner) = (.next (t.reply type st c) : Host.Outcome State Fault Refusal) :=
  congrArg _ (State.take_reply h (s.arrive_eq ▸ ho))

end Ends

/-! ### The events (R182 to R184) -/

/-- A flag meets the enables in its own bit. -/
theorem flagBit_and_ne_zero (b : Bool) {i : Nat} (hi : i < 16) (m : Word16) : flagBit b i &&& m ≠ 0 ↔ b = true ∧ m[i] = true := by
  cases b with
  | false => simp [flagBit]
  | true =>
    simp only [flagBit, if_true, true_and, ne_eq, ← BitVec.twoPow_eq, BitVec.twoPow_and]
    rw [BitVec.getLsbD_eq_getElem hi]
    cases m[i] with
    | false => simp
    | true =>
      refine iff_of_true (fun h => ?_) rfl
      have hbit := congrArg (·.getLsbD i) h
      simp [hi] at hbit

theorem or_and_ne_zero (x y m : Word16) : (x ||| y) &&& m ≠ 0 ↔ x &&& m ≠ 0 ∨ y &&& m ≠ 0 := by
  have hdistrib : (x ||| y) &&& m = (x &&& m) ||| (y &&& m) := by
    ext i hi
    simp [Bool.and_or_distrib_right]
  rw [hdistrib]
  exact (not_congr BitVec.or_eq_zero_iff).trans not_and_or

/-- A flag of the word is set with its enable exactly when one of the twelve flags is (R184, R198). -/
theorem EventFlags.word_and_ne_zero (f : EventFlags) (m : Word16) : f.word &&& m ≠ 0 ↔
    (f.settled ≠ 0 ∧ m[0] = true) ∨ (f.channelFault = true ∧ m[1] = true) ∨ (f.overspeed = true ∧ m[2] = true) ∨
      (f.nodeSilent = true ∧ m[3] = true) ∨ (f.nodeHalted = true ∧ m[4] = true) ∨ (f.nodeTableFull = true ∧ m[5] = true) ∨
      (f.sweepDone = true ∧ m[6] = true) ∨ (f.cycleOverrun = true ∧ m[7] = true) ∨ (f.supplyBackup = true ∧ m[8] = true) ∨
      (f.supplyMain = true ∧ m[9] = true) ∨ (f.coldStart = true ∧ m[10] = true) ∨ (f.linkOverrun = true ∧ m[11] = true) := by
  have hset : (f.settled != 0) = true ↔ f.settled ≠ 0 := bne_iff_ne
  unfold EventFlags.word
  rw [or_and_ne_zero, or_and_ne_zero, or_and_ne_zero, or_and_ne_zero, or_and_ne_zero, or_and_ne_zero, or_and_ne_zero, or_and_ne_zero,
    or_and_ne_zero, or_and_ne_zero, or_and_ne_zero, flagBit_and_ne_zero _ (by omega), flagBit_and_ne_zero _ (by omega),
    flagBit_and_ne_zero _ (by omega), flagBit_and_ne_zero _ (by omega), flagBit_and_ne_zero _ (by omega), flagBit_and_ne_zero _ (by omega),
    flagBit_and_ne_zero _ (by omega), flagBit_and_ne_zero _ (by omega), flagBit_and_ne_zero _ (by omega), flagBit_and_ne_zero _ (by omega),
    flagBit_and_ne_zero _ (by omega), flagBit_and_ne_zero _ (by omega), hset]
  simp only [or_assoc]

theorem State.alertLow_iff {s : State} (h : s.ssv.domain = .running) : s.alertLow = true ↔ s.link.flags.word &&& s.link.mask ≠ 0 := by
  simp [State.alertLow, h]

theorem State.canTake_runs {s : State} {i : Instr} (h : s.canTake i = true) : s.ssv.domain = .running := by
  by_contra hn
  simp [State.canTake, hn] at h

/-! ### The selectors of a byte -/

theorem readEventsOwner_bad {sel : Byte} (h : 1 < sel.toNat) (s : State) : readEventsOwner sel s = refuse .badValue s := by
  unfold readEventsOwner
  split
  · omega
  · omega
  · rfl

theorem readCountersOwner_bad {g : Byte} (h : 3 < g.toNat) (s : State) : readCountersOwner g s = refuse .badValue s := by
  unfold readCountersOwner
  split
  · omega
  · omega
  · omega
  · omega
  · rfl

/-! ### The statements -/

/-- Settles O9. -/
theorem identifyAndUnknown : Obligations.IdentifyAndUnknown := by
  unfold Obligations.IdentifyAndUnknown
  refine ⟨fun s h => ?_, fun type length s h => ?_⟩
  · exact State.next_take_of_reply (owner := identifyOwner) h rfl
  · exact State.next_take_of_refuse h fun _ => rfl

/-- Settles O10. -/
theorem readEvents : Obligations.ReadEvents := by
  unfold Obligations.ReadEvents
  refine fun sel s h => ⟨?_, ?_, fun hsel => ?_⟩
  · rintro rfl
    exact State.next_take_of_reply (owner := readEventsOwner 0#8) h rfl
  · rintro rfl
    exact State.next_take_of_reply (owner := readEventsOwner 1#8) h rfl
  · exact State.next_take_of_refuse h fun _ => readEventsOwner_bad hsel _

/-- Settles O11. ALERT asks for a flag whose enable is set, bit by bit. -/
theorem setEventMask : Obligations.SetEventMask := by
  unfold Obligations.SetEventMask
  refine fun m s h => ⟨fun hm => ?_, fun hm => ⟨_, State.next_take_of_reply (owner := setEventMaskOwner m) h (if_pos ?_), rfl, ?_⟩⟩
  · exact State.next_take_of_refuse h fun l => if_neg (by simpa [maskValid] using hm)
  · simpa [maskValid] using hm
  · exact (State.alertLow_iff (s := s.withLink { s.link.arrived with mask := m }) (State.canTake_runs h)).trans (EventFlags.word_and_ne_zero s.link.flags m)

/-- Settles O12. -/
theorem readCounters : Obligations.ReadCounters := by
  unfold Obligations.ReadCounters
  refine fun g s h => ⟨?link, ?ein, ?bus, ?attribution, fun hg => ?_⟩
  case link =>
    rintro rfl
    exact ⟨_, rfl, State.next_take_of_reply (owner := readCountersOwner 0#8) h rfl⟩
  case ein =>
    rintro rfl
    refine ⟨_, State.next_take_of_done (owner := einCounters) (fun t => t.withChannels (mapChannels (fun c => { c with counters := .zero }) t.channels)) h
      (fun _ => rfl) (fun _ _ => rfl) fun _ => rfl, rfl, fun c => ?_⟩
    exact mapChannels_get ..
  case bus =>
    rintro rfl
    obtain ⟨n, hn, hpass, hrecord⟩ := (s.withLink s.link.arrived).letTimePass_counts
    have howner : busCountersGroup (s.withLink s.link.arrived) = accept (.busCounters s.abm.counters s.abm.totals (s.busRecord n))
        ((((s.withLink s.link.arrived).counting n).withFreeUses (s.freeUses + 1)).countBus fun _ => .zero) := by
      unfold busCountersGroup
      rw [hrecord, hpass]
      rfl
    exact ⟨n, hn, State.next_take_of_reply (owner := busCountersGroup) h howner⟩
  case attribution =>
    rintro rfl
    exact State.next_take_of_done (owner := attributionCounters) (fun t => t.countAtu fun _ => .zero) h (fun _ => rfl) (fun _ _ => rfl) fun _ => rfl
  · exact State.next_take_of_refuse h fun _ => readCountersOwner_bad hg _

/-- Settles O13. -/
theorem factoryClear : Obligations.FactoryClear := by
  unfold Obligations.FactoryClear
  refine ⟨fun s h => ?_, fun s hrun hlink => ?_, fun s hcold => ?_⟩
  · exact State.next_take_of_accept (owner := factoryClearOwner) h fun _ => rfl
  · exact ⟨_, exec_replySent hrun hlink, rfl⟩
  · exact congrArg _ (if_pos hcold)

end Sys2Proof.Machine

/-! SUPPORT and PROOFS. The zone requests, the prices and the current band (R8 to R14, R20, R21). -/

namespace Sys2Proof.Machine

/-! ### Codes and numbers of a body (R178) -/

theorem modeOf_eq_none {b : Byte} (h : 1 < b.toNat) : modeOf b = none := by
  unfold modeOf
  split
  · omega
  · omega
  · rfl

theorem externalOf_eq_none {b : Byte} (h : 1 < b.toNat) : externalOf b = none := by
  unfold externalOf
  split
  · omega
  · omega
  · rfl

theorem bandOf_eq_none {b : Byte} (h : 3 < b.toNat) : bandOf b = none := dif_neg (Nat.not_lt.2 h)

theorem bandOf_eq_some {b : Byte} {k : BandNo} (h : b.toNat = k.val) : bandOf b = some k := index_eq_some h

theorem Word16.toNat_eq_zero_iff (w : Word16) : w.toNat = 0 ↔ w = 0 := by
  rw [BitVec.toNat_eq]
  rfl

/-! ### What the checks ask (R8) -/

theorem ZoneState.busy_iff (st : ZoneState) : st.busy = true ↔ st = .armed ∨ st = .queued ∨ st = .settling := by
  cases st <;> simp [ZoneState.busy]

theorem State.mem_assigned (s : State) (z : ZoneNo) (c : ChannelNo) : c ∈ s.assigned z ↔ s.channels[c].zone = some z := by
  simp [State.assigned, mem_allChannels]

theorem State.assigned_ne_nil_iff (s : State) (z : ZoneNo) : s.assigned z ≠ [] ↔ ∃ c : ChannelNo, s.channels[c].zone = some z := by
  simp only [← s.mem_assigned z]
  exact ⟨List.exists_mem_of_ne_nil _, fun ⟨c, hc⟩ => List.ne_nil_of_mem hc⟩

theorem State.assigned_eq_nil {s : State} {z : ZoneNo} (h : ∀ c : ChannelNo, s.channels[c].zone ≠ some z) : ¬s.assigned z ≠ [] := by
  rw [State.assigned_ne_nil_iff]
  exact fun ⟨c, hc⟩ => h c hc

section
variable {s : State} {z : ZoneNo}

theorem whenOpen_busy (h : s.zones[z].state = .armed ∨ s.zones[z].state = .queued ∨ s.zones[z].state = .settling) (k : Unit → Answer) :
    whenOpen z s k = refuse .busy s := if_pos ((ZoneState.busy_iff _).2 h)

theorem ZoneState.not_busy_of_unused {st : ZoneState} (h : st = .unused) : ¬st.busy = true := by
  rw [h]
  nofun

theorem ZoneState.not_busy_of_opened {st : ZoneState} (h : st = .opened) : ¬st.busy = true := by
  rw [h]
  nofun

theorem ZoneState.not_unused_of_opened {st : ZoneState} (h : st = .opened) : ¬st = .unused := by
  rw [h]
  nofun

theorem whenOpen_unused (h : s.zones[z].state = .unused) (k : Unit → Answer) : whenOpen z s k = refuse .wrongState s :=
  (if_neg (ZoneState.not_busy_of_unused h)).trans (if_pos h)

theorem whenOpen_opened (h : s.zones[z].state = .opened) (k : Unit → Answer) : whenOpen z s k = k () :=
  (if_neg (ZoneState.not_busy_of_opened h)).trans (if_neg (ZoneState.not_unused_of_opened h))

end

/-! ### DEFINE ZONE (R9) -/

section
variable {zb mb xb : Byte} {f : Word16} {z : ZoneNo} (hz : zb.toNat = z.val)
include hz

theorem defineZoneOwner_badValue (h : 1000 < f.toNat ∨ 1 < mb.toNat ∨ 1 < xb.toNat) (s : State) :
    defineZoneOwner zb mb f xb s = refuse .badValue s := by
  unfold defineZoneOwner
  rw [withZone_good hz]
  split
  · next m x hm hx =>
    rcases h with h | h | h
    · exact if_pos h
    · exact absurd (hm.symm.trans (modeOf_eq_none h)) nofun
    · exact absurd (hx.symm.trans (externalOf_eq_none h)) nofun
  · rfl

/-- The zone redefined as empty, with the fields given. -/
def Zone.opened (m : Mode) (f : Nat) (x : Bool) (r : Zone) : Zone :=
  { r with state := .opened, mode := m, fixedShare := f, external := x, members := [], openU := .zero, closing := .zero, armed := .absent }

/-- The zone with its three fields replaced. -/
def Zone.redefined (m : Mode) (f : Nat) (x : Bool) (r : Zone) : Zone := { r with mode := m, fixedShare := f, external := x }

theorem defineZoneOwner_good {m : Mode} {x : Bool} (hm : modeOf mb = some m) (hx : externalOf xb = some x) (hf : f.toNat ≤ 1000) (s : State) :
    defineZoneOwner zb mb f xb s =
      if s.zones[z].state.busy then refuse .busy s
      else if s.zones[z].state = .unused then
        accept (.zoneDefinition z .opened m f.toNat x) (s.updZone z (Zone.opened m f.toNat x))
      else if m ≠ s.zones[z].mode ∧ s.assigned z ≠ [] then refuse .wrongState s
      else accept (.zoneDefinition z .opened m f.toNat x) (s.updZone z (Zone.redefined m f.toNat x)) := by
  unfold defineZoneOwner
  rw [withZone_good hz, hm, hx]
  exact if_neg (Nat.not_lt.2 hf)

end

/-- A taken request whose owner changes one zone. -/
theorem State.next_take_of_updZone {s : State} {i : Instr} {type : Byte} {owner : State → Answer} {c : Content} (z : ZoneNo) (g : Zone → Zone)
    (h : s.canTake i = true) (ho : ∀ l : Link, owner (s.withLink l) = accept c ((s.withLink l).updZone z g)) :
    Host.Outcome.next (s.take i type owner) =
      (.next ((s.answered type .ok c).withZones (s.zones.set z (g s.zones[z]))) : Host.Outcome State Fault Refusal) :=
  State.next_take_of_done (State.updZone · z g) h ho (fun _ _ => rfl) fun _ => rfl

/-- Settles O15. -/
theorem defineZone : Obligations.DefineZone := by
  unfold Obligations.DefineZone
  refine fun zb mb f xb s h => ⟨fun hbad => ?_, fun z hz => ⟨fun hbad => ?_, fun m x hm hx hf => ?good⟩⟩
  · exact State.next_take_of_refuse h fun _ => withZone_bad hbad ..
  · exact State.next_take_of_refuse h fun _ => defineZoneOwner_badValue hz hbad _
  case good =>
    have howner (l : Link) := defineZoneOwner_good hz hm hx hf (s.withLink l)
    refine ⟨fun hbusy => ?_, fun hunused => ?_, fun hopen hmode hassigned => ?_, fun hopen hfree => ?_⟩
    · exact State.next_take_of_refuse h fun l => (howner l).trans (if_pos ((ZoneState.busy_iff _).2 hbusy))
    · exact State.next_take_of_updZone z (Zone.opened m f.toNat x) h fun l =>
        (howner l).trans ((if_neg (ZoneState.not_busy_of_unused hunused)).trans (if_pos hunused))
    · exact State.next_take_of_refuse h fun l => (howner l).trans <| (if_neg (ZoneState.not_busy_of_opened hopen)).trans <|
        (if_neg (ZoneState.not_unused_of_opened hopen)).trans <| if_pos ⟨hmode, (s.assigned_ne_nil_iff z).2 hassigned⟩
    · have hno : ¬(m ≠ s.zones[z].mode ∧ s.assigned z ≠ []) := fun ⟨hne, hsome⟩ =>
        hfree.elim (fun he => hne he) fun hc => State.assigned_eq_nil hc hsome
      exact State.next_take_of_updZone z (Zone.redefined m f.toNat x) h fun l =>
        (howner l).trans ((if_neg (ZoneState.not_busy_of_opened hopen)).trans ((if_neg (ZoneState.not_unused_of_opened hopen)).trans (if_neg hno)))

/-! ### DELETE ZONE (R10) -/

theorem deleteZoneOwner_good {zb : Byte} {z : ZoneNo} (hz : zb.toNat = z.val) (s : State) : deleteZoneOwner zb s =
    whenOpen z s fun _ =>
      if s.assigned z ≠ [] ∨ s.zones[z].members ≠ [] ∨ s.zones[z].openU ≠ .zero then refuse .wrongState s
      else accept (.zoneState z .unused) (s.updZone z fun r => { r with state := .unused }) := withZone_good hz ..

/-- Settles O16. -/
theorem deleteZone : Obligations.DeleteZone := by
  unfold Obligations.DeleteZone
  refine fun zb s h => ⟨fun hbad => ?_, fun z hz => ⟨fun hbusy => ?_, ?wrong, fun hopen hfree hmembers hU => ?_⟩⟩
  · exact State.next_take_of_refuse h fun _ => withZone_bad hbad ..
  · exact State.next_take_of_refuse h fun l => (deleteZoneOwner_good hz _).trans (whenOpen_busy (s := s.withLink l) hbusy _)
  case wrong =>
    rintro (hunused | ⟨hopen, hheld⟩)
    · exact State.next_take_of_refuse h fun l => (deleteZoneOwner_good hz _).trans (whenOpen_unused (s := s.withLink l) hunused _)
    · exact State.next_take_of_refuse h fun l => (deleteZoneOwner_good hz _).trans ((whenOpen_opened (s := s.withLink l) hopen _).trans
        (if_pos (hheld.imp_left (s.assigned_ne_nil_iff z).2)))
  · have hno : ¬(s.assigned z ≠ [] ∨ s.zones[z].members ≠ [] ∨ s.zones[z].openU ≠ .zero) := by
      rintro (hc | hm | hu)
      · exact State.assigned_eq_nil hfree hc
      · exact hm hmembers
      · exact hu hU
    exact State.next_take_of_updZone z (fun r => { r with state := .unused }) h fun l =>
      (deleteZoneOwner_good hz _).trans ((whenOpen_opened (s := s.withLink l) hopen _).trans (if_neg hno))

/-! ### ADD MEMBER (R11) -/

section
variable {zb ab : Byte} {area : Word16} {z : ZoneNo} {a : AccountNo} (hz : zb.toNat = z.val)
include hz

theorem addMemberOwner_badValue (h : 127 < ab.toNat ∨ area = 0) (s : State) : addMemberOwner zb ab area s = refuse .badValue s := by
  unfold addMemberOwner
  rw [withZone_good hz]
  split
  · rfl
  · next a ha =>
    rcases h with h | h
    · exact absurd (ha.symm.trans (accountOf_eq_none h)) nofun
    · exact if_pos ((Word16.toNat_eq_zero_iff _).2 h)

theorem addMemberOwner_good (ha : ab.toNat = a.val) (harea : area ≠ 0) (s : State) : addMemberOwner zb ab area s =
    whenOpen z s fun _ =>
      if s.accounts[a] = .free ∨ a = 0 then refuse .wrongState s
      else if s.zones[z].hasMember a then refuse .conflict s
      else if 32 ≤ s.zones[z].members.length then refuse .full s
      else
        accept (.memberCount z a (s.zones[z].members.length + 1))
          (s.updZone z fun r => { r with members := insertMember ⟨a, area.toNat, .zero, .zero⟩ r.members }) := by
  unfold addMemberOwner
  rw [withZone_good hz, accountOf_eq_some ha]
  exact if_neg (mt (Word16.toNat_eq_zero_iff _).1 harea)

end

/-- A byte up to 127 is an account's number. -/
theorem exists_account {b : Byte} (h : b.toNat ≤ 127) : ∃ a : AccountNo, b.toNat = a.val := ⟨⟨b.toNat, by omega⟩, rfl⟩

theorem Zone.not_hasMember {r : Zone} {a : AccountNo} (h : ∀ m ∈ r.members, m.account ≠ a) : ¬r.hasMember a = true := by
  rw [Zone.hasMember_iff]
  exact fun ⟨m, hm, he⟩ => h m hm he

/-- Settles O17. -/
theorem addMember : Obligations.AddMember := by
  unfold Obligations.AddMember
  refine ⟨fun zb ab area s h => ⟨fun hbad => ?_, fun z hz => ⟨fun hbad => ?_, fun hab harea => ?checks⟩⟩,
    fun zb ab area z a s h hz ha harea hopen => ?own⟩
  · exact State.next_take_of_refuse h fun _ => withZone_bad hbad ..
  · exact State.next_take_of_refuse h fun _ => addMemberOwner_badValue hz hbad _
  case checks =>
    obtain ⟨a, ha⟩ := exists_account hab
    refine ⟨fun hunused => ?_, fun hbusy => ?_⟩
    · exact State.next_take_of_refuse h fun l => (addMemberOwner_good hz ha harea _).trans (whenOpen_unused (s := s.withLink l) hunused _)
    · exact State.next_take_of_refuse h fun l => (addMemberOwner_good hz ha harea _).trans (whenOpen_busy (s := s.withLink l) hbusy _)
  case own =>
    have howner (l : Link) := (addMemberOwner_good hz ha harea (s.withLink l)).trans (whenOpen_opened (s := s.withLink l) hopen _)
    refine ⟨fun hbad => ?_, fun hfree h0 hmember => ?_, fun hfree h0 hmember hfull => ?_, fun hfree h0 hmember hroom => ?_⟩
    · exact State.next_take_of_refuse h fun l => (howner l).trans (if_pos hbad)
    · exact State.next_take_of_refuse h fun l => (howner l).trans ((if_neg (not_or.2 ⟨hfree, h0⟩)).trans
        (if_pos ((Zone.hasMember_iff _ _).2 hmember)))
    · exact State.next_take_of_refuse h fun l => (howner l).trans ((if_neg (not_or.2 ⟨hfree, h0⟩)).trans
        ((if_neg (Zone.not_hasMember hmember)).trans (if_pos hfull)))
    · refine ⟨insertMember ⟨a, area.toNat, .zero, .zero⟩ s.zones[z].members, ?_, length_insertMember .., fun m => mem_insertMember ..⟩
      exact State.next_take_of_updZone z (fun r => { r with members := insertMember ⟨a, area.toNat, .zero, .zero⟩ r.members }) h fun l =>
        (howner l).trans ((if_neg (not_or.2 ⟨hfree, h0⟩)).trans ((if_neg (Zone.not_hasMember hmember)).trans (if_neg (Nat.not_le.2 hroom))))

/-! ### REMOVE MEMBER (R12) -/

section
variable {zb ab : Byte} {z : ZoneNo} {a : AccountNo} (hz : zb.toNat = z.val)
include hz

theorem removeMemberOwner_badValue (h : 127 < ab.toNat) (s : State) : removeMemberOwner zb ab s = refuse .badValue s := by
  unfold removeMemberOwner
  rw [withZone_good hz, accountOf_eq_none h]

theorem removeMemberOwner_good (ha : ab.toNat = a.val) (s : State) : removeMemberOwner zb ab s =
    whenOpen z s fun _ =>
      match findMember a s.zones[z].members with
      | none => refuse .conflict s
      | some m =>
        accept (.memberCount z a (s.zones[z].members.filter fun x => x.account != a).length)
          (s.updZone z fun r => { r with members := s.zones[z].members.filter fun x => x.account != a, openU := r.openU.absorb m.openW }) := by
  unfold removeMemberOwner
  rw [withZone_good hz, accountOf_eq_some ha] <;> rfl

end

theorem findMember_eq_none {a : AccountNo} {ms : List Member} (h : ∀ m ∈ ms, m.account ≠ a) : findMember a ms = none :=
  List.find?_eq_none.2 fun m hm => by simpa using h m hm

theorem findMember_eq_some {a : AccountNo} {l r : List Member} {m : Member} (hm : m.account = a) (h : ∀ x ∈ l ++ r, x.account ≠ a) :
    findMember a (l ++ m :: r) = some m := by
  have hl : l.find? (fun x => x.account == a) = none :=
    findMember_eq_none fun x hx => h x (List.mem_append_left r hx)
  rw [findMember, List.find?_append, hl, List.find?_cons_of_pos (by simpa using hm)]
  rfl

theorem filter_account_ne {a : AccountNo} {l r : List Member} {m : Member} (hm : m.account = a) (h : ∀ x ∈ l ++ r, x.account ≠ a) :
    (l ++ m :: r).filter (fun x => x.account != a) = l ++ r := by
  have hkeep : (l ++ r).filter (fun x => x.account != a) = l ++ r := List.filter_eq_self.2 fun x hx => by simpa using h x hx
  rw [List.filter_append, List.filter_cons_of_neg (by simpa using hm), ← List.filter_append, hkeep]

theorem Accum.absorb_eq (u w : Accum) : u.absorb w =
    ⟨min (u.value + w.value) (2 ^ 48 - 1), u.saturated || w.saturated || decide (2 ^ 48 - 1 < u.value + w.value)⟩ := by
  unfold Accum.absorb
  rw [satAdd_eq_min, Bool.or_right_comm]
  rfl

/-- Settles O18. -/
theorem removeMember : Obligations.RemoveMember := by
  unfold Obligations.RemoveMember
  refine ⟨fun zb ab s h => ⟨fun hbad => ?_, fun z hz => ⟨fun hbad => ?_, fun hab => ?checks⟩⟩, fun zb ab z a s h hz ha hopen => ?own⟩
  · exact State.next_take_of_refuse h fun _ => withZone_bad hbad ..
  · exact State.next_take_of_refuse h fun _ => removeMemberOwner_badValue hz hbad _
  case checks =>
    obtain ⟨a, ha⟩ := exists_account hab
    refine ⟨fun hunused => ?_, fun hbusy => ?_⟩
    · exact State.next_take_of_refuse h fun l => (removeMemberOwner_good hz ha _).trans (whenOpen_unused (s := s.withLink l) hunused _)
    · exact State.next_take_of_refuse h fun l => (removeMemberOwner_good hz ha _).trans (whenOpen_busy (s := s.withLink l) hbusy _)
  case own =>
    have howner (l : Link) := (removeMemberOwner_good hz ha (s.withLink l)).trans (whenOpen_opened (s := s.withLink l) hopen _)
    refine ⟨fun hno => ?_, fun l r m hms hm hother => ?_⟩
    · exact State.next_take_of_refuse h fun l => (howner l).trans (by rw [State.withLink_zones, findMember_eq_none hno])
    · have hdone := State.next_take_of_updZone (type := 0x23) (c := .memberCount z a (l ++ r).length) (owner := removeMemberOwner zb ab) z
        (fun x => { x with members := l ++ r, openU := x.openU.absorb m.openW }) h fun k => (howner k).trans (by
          rw [State.withLink_zones, hms, findMember_eq_some hm hother, filter_account_ne hm hother])
      rw [Accum.absorb_eq] at hdone
      exact hdone

/-! ### READ ZONE, SET PRICES and SET BAND (R14, R20, R21) -/

theorem readZoneOwner_good {zb fb : Byte} {z : ZoneNo} (hz : zb.toNat = z.val) (s : State) : readZoneOwner zb fb s =
    if 31 < fb.toNat then refuse .badValue s else accept (.zoneRecord (s.zoneReply z fb.toNat)) s := withZone_good hz ..

/-- Settles O19. -/
theorem zoneReadsPricesBand : Obligations.ZoneReadsPricesBand := by
  unfold Obligations.ZoneReadsPricesBand
  refine ⟨fun zb fb s h => ⟨fun hbad => ?_, fun z hz hbad => ?_, fun z hz hfb => ?_⟩,
    fun mb p0 p1 p2 p3 s h => ⟨fun hbad => ?_, ?_, ?_⟩, fun bb s h => ⟨fun hbad => ?_, fun b hb => ?_⟩⟩
  · exact State.next_take_of_refuse h fun _ => withZone_bad hbad ..
  · exact State.next_take_of_refuse h fun _ => (readZoneOwner_good hz _).trans (if_pos hbad)
  · exact ⟨s.zoneReply z fb.toNat, State.next_take_of_accept h fun _ => (readZoneOwner_good hz _).trans (if_neg (Nat.not_lt.2 hfb)),
      rfl, rfl, rfl, rfl, s.mem_assigned z, rfl, rfl, rfl, rfl, rfl, rfl, rfl, rfl, rfl, rfl⟩
  · exact State.next_take_of_refuse h fun l => by rw [setPricesOwner, modeOf_eq_none hbad]
  · rintro rfl
    exact State.next_take_of_done (owner := setPricesOwner 0#8 p0 p1 p2 p3)
      (fun t => t.withPrices (t.prices.put .heating #v[p0.toNat, p1.toNat, p2.toNat, p3.toNat])) h (fun _ => rfl) (fun _ _ => rfl) fun _ => rfl
  · rintro rfl
    exact State.next_take_of_done (owner := setPricesOwner 1#8 p0 p1 p2 p3)
      (fun t => t.withPrices (t.prices.put .cooling #v[p0.toNat, p1.toNat, p2.toNat, p3.toNat])) h (fun _ => rfl) (fun _ _ => rfl) fun _ => rfl
  · exact State.next_take_of_refuse h fun l => by rw [setBandOwner, bandOf_eq_none hbad]
  · exact State.next_take_of_done (State.withBand · b) h (fun l => by rw [setBandOwner, bandOf_eq_some hb]) (fun _ _ => rfl) fun _ => rfl

end Sys2Proof.Machine

/-! SUPPORT and PROOFS. SETTLE: one entry by its conditions in their order, and the entries one after another (R15, R16, R18, R179). -/

namespace Sys2Proof.Machine

/-! ### One entry (R15) -/

theorem CloseTerms.eq_entryTerms {e : SettleEntry} {t : CloseTerms} (h : givesTerms e t) : t = entryTerms e := by
  obtain ⟨zone, timing, standing, energies⟩ := e
  obtain ⟨st, en⟩ := t
  obtain ⟨hst, hnone, hsome⟩ := h
  obtain rfl : st = _ := hst
  cases energies with
  | none =>
    obtain rfl : en = none := hnone rfl
    rfl
  | some v =>
    obtain ⟨w, rfl, hw⟩ := hsome v rfl
    have hwords : w = bandwise fun b => v[b].toNat := by
      ext i hi
      exact (hw ⟨i, hi⟩).trans (bandwise_get (fun b => v[b].toNat) ⟨i, hi⟩).symm
    rw [hwords]
    rfl

section
variable {s : State} {e : SettleEntry}

theorem State.settleEntry_badIndex (h : 15 < e.zone.toNat) : s.settleEntry e = (.badIndex, s) := by
  rw [State.settleEntry, zoneOf_eq_none h]

variable {z : ZoneNo} (hz : e.zone.toNat = z.val)
include hz

theorem State.settleEntry_eq (s : State) : s.settleEntry e =
    if 1 < e.timing.toNat then (.badValue, s)
    else if s.zones[z].state = .unused then (.wrongState, s)
    else if s.zones[z].state.busy then (.busy, s)
    else if e.energies.isSome ≠ s.zones[z].external then (.badValue, s)
    else if e.timing = 0#8 then (.ok, s.closeZone z .immediate (entryTerms e))
    else if s.abm.bus = .off then (.noCycle, s)
    else (.ok, s.updZone z fun r => { r with state := .armed, armed := (entryTerms e) }) := by
  unfold State.settleEntry
  rw [zoneOf_eq_some hz]
  dsimp only
  cases s.zones[z].external with
  | false => cases e.energies <;> rfl
  | true => cases e.energies <;> rfl

theorem State.settleEntry_badTiming (h : 1 < e.timing.toNat) : s.settleEntry e = (.badValue, s) :=
  (s.settleEntry_eq hz).trans (if_pos h)

variable (ht : e.timing.toNat ≤ 1)
include ht

theorem State.settleEntry_unused (h : s.zones[z].state = .unused) : s.settleEntry e = (.wrongState, s) := by
  rw [s.settleEntry_eq hz, if_neg (Nat.not_lt.2 ht), if_pos h]

theorem State.settleEntry_busy (h : s.zones[z].state = .armed ∨ s.zones[z].state = .queued ∨ s.zones[z].state = .settling) :
    s.settleEntry e = (.busy, s) := by
  have hunused : s.zones[z].state ≠ .unused := by
    rcases h with h | h | h
    all_goals
      rw [h]
      nofun
  rw [s.settleEntry_eq hz, if_neg (Nat.not_lt.2 ht), if_neg hunused, if_pos ((ZoneState.busy_iff _).2 h)]

variable (hopen : s.zones[z].state = .opened)
include hopen

theorem State.settleEntry_opened : s.settleEntry e =
    if e.energies.isSome ≠ s.zones[z].external then (.badValue, s)
    else if e.timing = 0#8 then (.ok, s.closeZone z .immediate (entryTerms e))
    else if s.abm.bus = .off then (.noCycle, s)
    else (.ok, s.updZone z fun r => { r with state := .armed, armed := (entryTerms e) }) := by
  rw [s.settleEntry_eq hz, if_neg (Nat.not_lt.2 ht), if_neg (ZoneState.not_unused_of_opened hopen), if_neg (ZoneState.not_busy_of_opened hopen)]

end

/-- SETTLE with a single entry answers with that entry's status. -/
theorem settleOwner_single (e : SettleEntry) (s : State) :
    settleOwner (.entries [e]) s = accept (.entryStatuses [(s.settleEntry e).1]) (s.settleEntry e).2 := rfl

theorem State.next_take_settle_same {s : State} {e : SettleEntry} {st : Status} (h : s.canTake (.settle (.entries [e])) = true)
    (ho : ∀ l : Link, (s.withLink l).settleEntry e = (st, s.withLink l)) :
    exec (.settle (.entries [e])) s = .next (s.answered 0x50 .ok (.entryStatuses [st])) :=
  State.next_take_of_accept (owner := settleOwner (.entries [e])) h fun l => by rw [settleOwner_single, ho]

/-- Settles O20. Each clause follows the entry's conditions to the first that holds. -/
theorem settleOneEntry : Obligations.SettleOneEntry := by
  unfold Obligations.SettleOneEntry
  intro e terms s h hterms
  obtain rfl := CloseTerms.eq_entryTerms hterms
  refine ⟨fun hbad => ?_, fun z hz => ⟨fun ht => ?_, fun ht hunused => ?_, fun ht hbusy => ?_, fun ht hopen hext => ?_, fun ht hopen hext hoff => ?_,
    fun ht hopen hext hon => ?_, fun ht hopen hext => ?_⟩⟩
  · exact State.next_take_settle_same h fun _ => State.settleEntry_badIndex hbad
  · exact State.next_take_settle_same h fun _ => State.settleEntry_badTiming hz ht
  · exact State.next_take_settle_same h fun l => State.settleEntry_unused (s := s.withLink l) hz ht hunused
  · exact State.next_take_settle_same h fun l => State.settleEntry_busy (s := s.withLink l) hz ht hbusy
  · exact State.next_take_settle_same h fun l => (State.settleEntry_opened (s := s.withLink l) hz ht hopen).trans (if_pos hext)
  · have hone : e.timing ≠ 0#8 := by
      rw [ht]
      nofun
    have hle : e.timing.toNat ≤ 1 := by
      rw [ht]
      exact le_rfl
    exact State.next_take_settle_same h fun l => (State.settleEntry_opened (s := s.withLink l) hz hle hopen).trans
      ((if_neg (not_not.2 hext)).trans ((if_neg hone).trans (if_pos hoff)))
  · have hone : e.timing ≠ 0#8 := by
      rw [ht]
      nofun
    have hle : e.timing.toNat ≤ 1 := by
      rw [ht]
      exact le_rfl
    exact State.next_take_of_updZone z (fun r => { r with state := .armed, armed := entryTerms e }) h fun l => by
      rw [settleOwner_single, (State.settleEntry_opened (s := s.withLink l) hz hle hopen).trans
        ((if_neg (not_not.2 hext)).trans ((if_neg hone).trans (if_neg hon)))]
  · have hle : e.timing.toNat ≤ 1 := by
      rw [ht]
      exact Nat.zero_le 1
    have hdone := State.next_take_of_done (type := 0x50) (owner := settleOwner (.entries [e])) (c := .entryStatuses [.ok])
      (State.closeZone · z .immediate (entryTerms e)) h (fun l => by
        rw [settleOwner_single, (State.settleEntry_opened (s := s.withLink l) hz hle hopen).trans
          ((if_neg (not_not.2 hext)).trans (if_pos ht))]) (fun _ _ => rfl) fun _ => rfl
    refine ⟨_, hdone, rfl, fun y hy => ?_, ?_, fun c => ?_⟩
    · exact s.closeZone_zone_other _ _ (Ne.symm hy)
    · exact s.closeZone_zone z .immediate (entryTerms e)
    · exact s.closeZone_channel z .immediate (entryTerms e) c

/-! ### The entries in order (R15) -/

/-- An entry reads nothing of LINK and leaves it. -/
theorem State.settleEntry_withLink (s : State) (e : SettleEntry) (l : Link) :
    (s.withLink l).settleEntry e = ((s.settleEntry e).1, (s.settleEntry e).2.withLink l) := by
  by_cases hbad : 15 < e.zone.toNat
  · rw [State.settleEntry_badIndex hbad, State.settleEntry_badIndex hbad]
  · obtain ⟨z, hz⟩ : ∃ z : ZoneNo, e.zone.toNat = z.val := ⟨⟨e.zone.toNat, by omega⟩, rfl⟩
    show _ = Prod.map id (State.withLink · l) (s.settleEntry e)
    rw [State.settleEntry_eq hz, State.settleEntry_eq hz]
    simp only [apply_ite (Prod.map id (State.withLink · l))]
    rfl

theorem State.settleEntries_withLink (es : List SettleEntry) (s : State) (l : Link) :
    (s.withLink l).settleEntries es = ((s.settleEntries es).1, (s.settleEntries es).2.withLink l) := by
  induction es generalizing s with
  | nil => rfl
  | cons e es ih =>
    show ((((s.withLink l).settleEntry e).1 :: (((s.withLink l).settleEntry e).2.settleEntries es).1), (((s.withLink l).settleEntry e).2.settleEntries es).2) = _
    rw [s.settleEntry_withLink, ih]
    rfl

/-- SETTLE in HUNT, when its entries are no fewer than one and no more than 16. -/
theorem exec_settle_entries {es : List SettleEntry} {s : State} (h : s.canTake (.settle (.entries es)) = true) (hpos : es ≠ []) (hlen : es.length ≤ 16) :
    exec (.settle (.entries es)) s =
      .next ((s.settleEntries es).2.withLink (s.link.answered 0x50 .ok (.entryStatuses (s.settleEntries es).1))) := by
  refine State.next_take_of_done (owner := settleOwner (.entries es)) (fun t => (t.settleEntries es).2.withLink t.link) h (fun l => ?_) (fun l m => ?_) fun _ => rfl
  · have hin : ¬(es.length = 0 ∨ 16 < es.length) := not_or.2 ⟨mt List.length_eq_zero_iff.1 hpos, Nat.not_lt.2 hlen⟩
    show (if es.length = 0 ∨ 16 < es.length then _ else accept (.entryStatuses ((s.withLink l).settleEntries es).1) ((s.withLink l).settleEntries es).2) = _
    rw [if_neg hin, State.settleEntries_withLink]
    rfl
  · show ((s.withLink l).settleEntries es).2.withLink m = _
    rw [State.settleEntries_withLink]
    rfl

theorem State.settleEntry_ssv (s : State) (e : SettleEntry) : (s.settleEntry e).2.ssv = s.ssv := by
  unfold State.settleEntry
  split
  · rfl
  · split_ifs <;> rfl

theorem SettleBody.fits_iff (es : List SettleEntry) : (SettleBody.entries es).fits = true ↔ 1 + (es.flatMap encodeEntry).length ≤ 249 := by
  simp [SettleBody.fits, SettleBody.length]

/-- A part of a SETTLE that fits a frame fits one. -/
theorem State.canTake_settle_of_le {s t : State} {es fs : List SettleEntry} (hlink : s.link.receiver = .hunt) (htlink : t.link.receiver = .hunt)
    (hssv : t.ssv = s.ssv) (hle : (fs.flatMap encodeEntry).length ≤ (es.flatMap encodeEntry).length) (h : s.canTake (.settle (.entries es)) = true) :
    t.canTake (.settle (.entries fs)) = true := by
  unfold State.canTake at h ⊢
  rw [hlink] at h
  rw [htlink, hssv]
  obtain ⟨hrun, hfits⟩ := Bool.and_eq_true_iff.1 h
  have hfits' : (SettleBody.entries fs).fits = true := by
    have := (SettleBody.fits_iff es).1 hfits
    exact (SettleBody.fits_iff fs).2 (by omega)
  exact Bool.and_eq_true_iff.2 ⟨hrun, hfits'⟩

/-- Settles O21. Since an entry reads nothing of LINK, the entries of one SETTLE do what the first does alone and then the others alone. -/
theorem settleInOrder : Obligations.SettleInOrder := by
  unfold Obligations.SettleInOrder
  refine ⟨fun n s h => ?_, fun es s h hbad => ?_, fun e es s hlink h hne hlen => ?_⟩
  · exact State.next_take_of_refuse (owner := settleOwner (.malformed n)) h fun _ => rfl
  · exact State.next_take_of_refuse (owner := settleOwner (.entries es)) h fun _ => if_pos (hbad.imp_left fun hnil => hnil ▸ rfl)
  · have hfirst : s.canTake (.settle (.entries [e])) = true := State.canTake_settle_of_le hlink hlink rfl (by simp) h
    have hrest : ((s.settleEntry e).2.withLink s.link).canTake (.settle (.entries es)) = true :=
      State.canTake_settle_of_le hlink hlink (s.settleEntry_ssv e) (by simp) h
    have hdone : exec (.settle (.entries es)) ((s.settleEntry e).2.withLink s.link) = .next (((s.settleEntry e).2.settleEntries es).2.withLink
        (s.link.answered 0x50 .ok (.entryStatuses ((s.settleEntry e).2.settleEntries es).1))) := by
      rw [exec_settle_entries hrest hne (Nat.le_of_lt hlen), State.settleEntries_withLink]
      rfl
    exact ⟨(s.settleEntry e).2.withLink (s.link.answered 0x50 .ok (.entryStatuses [(s.settleEntry e).1])), _, _, (s.settleEntry e).1,
      ((s.settleEntry e).2.settleEntries es).1, exec_settle_entries hfirst nofun (by simp), rfl, hdone, rfl,
      exec_settle_entries h nofun (by simpa using hlen), rfl, rfl⟩

end Sys2Proof.Machine

/-! SUPPORT and PROOFS. The channel requests (R62 to R70, R84, R95, R98, R99). -/

namespace Sys2Proof.Machine

/-! ### Codes and numbers of a body (R62, R63) -/

theorem edgeOf_eq_none {b : Byte} (h : 2 < b.toNat) : edgeOf b = none := by
  unfold edgeOf
  split
  · omega
  · omega
  · omega
  · rfl

theorem optionalZoneOf_eq_none {b : Byte} (h : 15 < b.toNat) (hne : b ≠ 0xFF#8) : optionalZoneOf b = none := by
  rw [optionalZoneOf, if_neg hne, zoneOf_eq_none h]
  rfl

/-- The four filter periods. -/
theorem filterPeriod_iff (b : Byte) : (b.toNat = 1 ∨ b.toNat = 2 ∨ b.toNat = 8 ∨ b.toNat = 32) ↔
    (b = 1#8 ∨ b = 2#8 ∨ b = 8#8 ∨ b = 32#8) := by
  simp only [BitVec.toNat_eq]
  rfl

theorem filterOf_eq_none {b : Byte} (h : b ≠ 1#8 ∧ b ≠ 2#8 ∧ b ≠ 8#8 ∧ b ≠ 32#8) : filterOf b = none :=
  if_neg fun hb => (not_or.2 ⟨h.1, not_or.2 ⟨h.2.1, not_or.2 h.2.2⟩⟩) ((filterPeriod_iff b).1 hb)

theorem filterOf_eq_some {b : Byte} (h : b = 1#8 ∨ b = 2#8 ∨ b = 8#8 ∨ b = 32#8) : filterOf b = some b.toNat := if_pos ((filterPeriod_iff b).2 h)

section
variable {mb zb fb eb : Byte} {v k d f p n : Word16}

theorem channelConfigOf_eq_none (h : 1 < mb.toNat ∨ (15 < zb.toNat ∧ zb ≠ 0xFF#8) ∨ v = 0#16 ∨ 500 < d.toNat ∨ 5000 < f.toNat ∨ n = 0#16 ∨
    3600 < n.toNat ∨ (fb ≠ 1#8 ∧ fb ≠ 2#8 ∧ fb ≠ 8#8 ∧ fb ≠ 32#8) ∨ 2 < eb.toNat) : channelConfigOf mb zb v k d f p n fb eb = none := by
  refine Option.eq_none_iff_forall_ne_some.2 fun cfg hcfg => ?_
  simp only [channelConfigOf, Option.bind_eq_bind, Option.bind_eq_some_iff] at hcfg
  obtain ⟨m, hm, z, hz, fil, hfil, e, he, hin⟩ := hcfg
  split at hin
  · cases hin
  · next hranges =>
    obtain ⟨hv, hd, hf, hn, hn'⟩ : v.toNat ≠ 0 ∧ ¬500 < d.toNat ∧ ¬5000 < f.toNat ∧ n.toNat ≠ 0 ∧ ¬3600 < n.toNat := by
      simpa only [not_or] using hranges
    rcases h with h | ⟨h, hff⟩ | h | h | h | h | h | h | h
    · exact absurd (hm.symm.trans (modeOf_eq_none h)) nofun
    · exact absurd (hz.symm.trans (optionalZoneOf_eq_none h hff)) nofun
    · exact hv ((Word16.toNat_eq_zero_iff v).2 h)
    · exact hd h
    · exact hf h
    · exact hn ((Word16.toNat_eq_zero_iff n).2 h)
    · exact hn' h
    · exact absurd (hfil.symm.trans (filterOf_eq_none h)) nofun
    · exact absurd (he.symm.trans (edgeOf_eq_none h)) nofun

theorem channelConfigOf_eq_some {m : Mode} {z : Option ZoneNo} {e : Edge} (hm : modeOf mb = some m) (hz : optionalZoneOf zb = some z)
    (he : edgeOf eb = some e) (hv : v ≠ 0#16) (hd : d.toNat ≤ 500) (hf : f.toNat ≤ 5000) (hn : n ≠ 0#16) (hn' : n.toNat ≤ 3600)
    (hfil : fb = 1#8 ∨ fb = 2#8 ∨ fb = 8#8 ∨ fb = 32#8) : channelConfigOf mb zb v k d f p n fb eb =
      some ⟨m, z, v.toNat, k.toNat, d.toNat, f.toNat, p.toNat, n.toNat, fb.toNat, e⟩ := by
  have hranges : ¬(v.toNat = 0 ∨ 500 < d.toNat ∨ 5000 < f.toNat ∨ n.toNat = 0 ∨ 3600 < n.toNat) := by
    rintro (h | h | h | h | h)
    · exact hv ((Word16.toNat_eq_zero_iff v).1 h)
    · exact absurd h (Nat.not_lt.2 hd)
    · exact absurd h (Nat.not_lt.2 hf)
    · exact hn ((Word16.toNat_eq_zero_iff n).1 h)
    · exact absurd h (Nat.not_lt.2 hn')
  simp only [channelConfigOf, hm, hz, filterOf_eq_some hfil, he, Option.bind_eq_bind, Option.bind_some, if_neg hranges]

end

/-! ### The channel's number (R63, R66 to R69) -/

theorem withChannel_bad {b : Byte} (h : 7 < b.toNat) (s : State) (k : ChannelNo → Answer) : withChannel b s k = refuse .badIndex s := by
  have hnone : channelOf b = none := dif_neg (Nat.not_lt.2 h)
  rw [withChannel, hnone]

theorem withChannel_good {b : Byte} {c : ChannelNo} (h : b.toNat = c.val) (s : State) (k : ChannelNo → Answer) : withChannel b s k = k c := by
  have hsome : channelOf b = some c := index_eq_some h
  rw [withChannel, hsome]

/-! ### CONFIGURE CHANNEL (R63, R64) -/

theorem Channel.halvesZero_iff (c : Channel) : c.halvesZero = true ↔ c.opn = .zero ∧ c.closing = .zero := by
  simp [Channel.halvesZero]

theorem State.zoneObjection_none {s : State} {cfg : ChannelConfig} (h : ∀ y, cfg.zone = some y → s.zones[y].state = .opened ∧ s.zones[y].mode = cfg.mode) :
    s.zoneObjection cfg = none := by
  unfold State.zoneObjection
  split
  · rfl
  · next y hy =>
    obtain ⟨hopen, hmode⟩ := h y hy
    rw [if_neg (ZoneState.not_unused_of_opened hopen), if_neg (ZoneState.not_busy_of_opened hopen), if_neg (not_not.2 hmode)]

section
variable {s : State} {cfg : ChannelConfig} {y : ZoneNo} (hy : cfg.zone = some y)
include hy

theorem State.zoneObjection_some (s : State) : s.zoneObjection cfg =
    if s.zones[y].state = .unused then some .wrongState
    else if s.zones[y].state.busy then some .busy
    else if s.zones[y].mode ≠ cfg.mode then some .conflict
    else none := by
  unfold State.zoneObjection
  rw [hy]

theorem State.zoneObjection_unused (h : s.zones[y].state = .unused) : s.zoneObjection cfg = some .wrongState :=
  (State.zoneObjection_some hy s).trans (if_pos h)

theorem State.zoneObjection_busy (h : s.zones[y].state = .armed ∨ s.zones[y].state = .queued ∨ s.zones[y].state = .settling) :
    s.zoneObjection cfg = some .busy := by
  have hunused : s.zones[y].state ≠ .unused := by
    rcases h with h | h | h
    all_goals
      rw [h]
      nofun
  exact (State.zoneObjection_some hy s).trans ((if_neg hunused).trans (if_pos ((ZoneState.busy_iff _).2 h)))

theorem State.zoneObjection_mode (hopen : s.zones[y].state = .opened) (hmode : s.zones[y].mode ≠ cfg.mode) : s.zoneObjection cfg = some .conflict :=
  (State.zoneObjection_some hy s).trans ((if_neg (ZoneState.not_unused_of_opened hopen)).trans
    ((if_neg (ZoneState.not_busy_of_opened hopen)).trans (if_pos hmode)))

end

section
variable {cb : Byte} {c : ChannelNo} {cfg : ChannelConfig} {s : State} (hc : cb.toNat = c.val)
include hc

theorem configureChannelOwner_wrongState (h : s.channels[c].state ≠ .disabled ∨ s.channels[c].opn ≠ .zero ∨ s.channels[c].closing ≠ .zero) :
    configureChannelOwner cb (some cfg) s = refuse .wrongState s := by
  refine (withChannel_good hc ..).trans ?_
  dsimp only
  by_cases hstate : s.channels[c].state ≠ .disabled
  · exact if_pos hstate
  · have hhalves : (!s.channels[c].halvesZero) = true := by
      rw [Bool.not_eq_true', ← Bool.not_eq_true, Channel.halvesZero_iff, not_and_or]
      exact h.resolve_left hstate
    rw [if_neg hstate, if_pos hhalves]

theorem configureChannelOwner_idle (hstate : s.channels[c].state = .disabled) (hopn : s.channels[c].opn = .zero)
    (hclosing : s.channels[c].closing = .zero) : configureChannelOwner cb (some cfg) s =
      match s.zoneObjection cfg with
      | some st => refuse st s
      | none => accept (.configuration c cfg) (s.configure c cfg) := by
  have hhalves : (!s.channels[c].halvesZero) = true ↔ False := by
    rw [Bool.not_eq_true', ← Bool.not_eq_true, Channel.halvesZero_iff]
    exact iff_of_false (not_not.2 ⟨hopn, hclosing⟩) id
  refine (withChannel_good hc ..).trans ?_
  exact (if_neg (not_not.2 hstate)).trans (if_neg hhalves.1)

end

/-- Settles O22. -/
theorem configureChannel : Obligations.ConfigureChannel := by
  unfold Obligations.ConfigureChannel
  refine fun cb mb zb v k d f p n fb eb s h => ⟨fun hbad => ?_, fun c hc => ⟨fun hbad => ?_,
    fun m z e hm hz he hv hd hf hn hn' hfil => ⟨fun hbad => ?_, fun hstate hopn hclosing => ?idle⟩⟩⟩
  · exact State.next_take_of_refuse h fun _ => withChannel_bad hbad ..
  · refine State.next_take_of_refuse h fun l => (withChannel_good hc ..).trans ?_
    rw [channelConfigOf_eq_none hbad]
  · refine State.next_take_of_refuse h fun l => ?_
    rw [channelConfigOf_eq_some hm hz he hv hd hf hn hn' hfil]
    exact configureChannelOwner_wrongState hc hbad
  case idle =>
    have howner (l : Link) := configureChannelOwner_idle (s := s.withLink l)
      (cfg := ⟨m, z, v.toNat, k.toNat, d.toNat, f.toNat, p.toNat, n.toNat, fb.toNat, e⟩) hc hstate hopn hclosing
    rw [← channelConfigOf_eq_some hm hz he hv hd hf hn hn' hfil] at howner
    refine ⟨fun y hy hunused => ?_, fun y hy hbusy => ?_, fun y hy hopen hmode => ?_, fun hgood => ?_⟩
    · exact State.next_take_of_refuse h fun l => by rw [howner, State.zoneObjection_unused (s := s.withLink l) hy hunused]
    · exact State.next_take_of_refuse h fun l => by rw [howner, State.zoneObjection_busy (s := s.withLink l) hy hbusy]
    · exact State.next_take_of_refuse h fun l => by
        rw [howner, State.zoneObjection_mode (s := s.withLink l)
          (cfg := ⟨m, z, v.toNat, k.toNat, d.toNat, f.toNat, p.toNat, n.toNat, fb.toNat, e⟩) hy hopen hmode]
    · exact State.next_take_of_done (State.configure · c ⟨m, z, v.toNat, k.toNat, d.toNat, f.toNat, p.toNat, n.toNat, fb.toNat, e⟩) h
        (fun l => by rw [howner, State.zoneObjection_none (s := s.withLink l) hgood]) (fun _ _ => rfl) fun _ => rfl

/-! ### The scan set and the round (R106, R108) -/

/-- A taken request whose owner carries out `f`, which leaves LINK alone. -/
theorem State.next_take_of_act {s : State} {i : Instr} {type : Byte} {owner : State → Answer} {c : Content} (f : State → State)
    (h : s.canTake i = true) (ho : ∀ l : Link, owner (s.withLink l) = accept c (f (s.withLink l)))
    (hf : ∀ l : Link, f (s.withLink l) = (f s).withLink l) :
    Host.Outcome.next (s.take i type owner) = (.next ((f s).withLink (s.link.answered type .ok c)) : Host.Outcome State Fault Refusal) :=
  State.next_take_of_done f h ho (fun l m => by rw [hf]; rfl) fun l => by rw [hf]; rfl

theorem State.beginRound_withLink (s : State) (l : Link) : (s.withLink l).beginRound = s.beginRound.withLink l := by
  unfold State.beginRound
  rw [apply_ite (State.withLink · l)]
  rfl

theorem State.nextGate_withLink (s : State) (r : Round) (l : Link) : (s.withLink l).nextGate r = (s.nextGate r).withLink l := by
  unfold State.nextGate
  split
  · exact s.beginRound_withLink l
  · rfl

theorem State.scanSetGrown_withLink (s : State) (l : Link) : (s.withLink l).scanSetGrown = s.scanSetGrown.withLink l := by
  unfold State.scanSetGrown
  rw [apply_ite (State.withLink · l), ← s.beginRound_withLink]
  rfl

/-- The scan set is empty exactly when every channel is DISABLED (R106). -/
theorem State.scanList_eq_nil_iff (s : State) : s.scanList = [] ↔ ∀ c : ChannelNo, s.channels[c].state = .disabled := by
  refine ⟨fun h c => ?_, fun h => List.filter_eq_nil_iff.2 fun n _ hn => ?_⟩
  · by_contra hc
    have hmem := ((isScanSet_scanList s).2 ⟨2 * c.val, by omega⟩ c (by simp)).2 hc
    rw [h] at hmem
    exact absurd hmem List.not_mem_nil
  · exact absurd (h (sensorChannel n)) (by simpa [State.scanned] using hn)

theorem State.beginRound_empty {s : State} (h : ∀ c : ChannelNo, s.channels[c].state = .disabled) :
    s.beginRound = s.withTcv { s.tcv with round := none } := if_pos (s.scanList_eq_nil_iff.2 h)

theorem State.beginRound_next {s : State} {c : ChannelNo} (hc : s.channels[c].state ≠ .disabled) {scan : List SensorNo} (hscan : isScanSet s scan) :
    s.beginRound = s.withTcv { s.tcv with
      roundNumber := s.tcv.roundNumber + 1, round := some ⟨.reference, scan, s.tcv.gateLength, none, false, none⟩ } := by
  rw [(isScanSet_iff s scan).1 hscan]
  exact if_neg fun hnil => hc (s.scanList_eq_nil_iff.1 hnil c)

section
variable {s : State} {c : ChannelNo}

theorem State.scanSetShrunk_idle (h : s.tcv.round = none) : s.scanSetShrunk c = s := by
  unfold State.scanSetShrunk
  rw [h]

theorem State.scanSetShrunk_empty (h : ∀ x : ChannelNo, s.channels[x].state = .disabled) :
    s.scanSetShrunk c = s.withTcv { s.tcv with round := none } := by
  unfold State.scanSetShrunk
  split
  · next hround =>
    rw [← hround]
    rfl
  · exact if_pos (s.scanList_eq_nil_iff.2 h)

variable {r : Round} (hround : s.tcv.round = some r) {x : ChannelNo} (hx : s.channels[x].state ≠ .disabled)
include hround hx

theorem State.scanSetShrunk_rest : s.scanSetShrunk c =
    match r.gate with
    | .reference => s.withRound (some { r with rest := r.rest.filter fun n => sensorChannel n != c })
    | .sensor n =>
      if sensorChannel n = c then s.nextGate { r with rest := r.rest.filter fun n => sensorChannel n != c, flow := none }
      else s.withRound (some { r with rest := r.rest.filter fun n => sensorChannel n != c }) := by
  unfold State.scanSetShrunk
  rw [hround]
  exact if_neg fun hnil => hx (s.scanList_eq_nil_iff.1 hnil x)

theorem State.scanSetShrunk_kept (h : ∀ n, r.gate = .sensor n → sensorChannel n ≠ c) :
    s.scanSetShrunk c = s.withTcv { s.tcv with round := some { r with rest := r.rest.filter fun n => sensorChannel n != c } } := by
  rw [State.scanSetShrunk_rest hround hx]
  split
  · rfl
  · next n hgate => exact if_neg (h n hgate)

theorem State.scanSetShrunk_dropped {n : SensorNo} (hgate : r.gate = .sensor n) (hn : sensorChannel n = c) :
    s.scanSetShrunk c = s.nextGate { r with rest := r.rest.filter fun n => sensorChannel n != c, flow := none } := by
  rw [State.scanSetShrunk_rest hround hx, hgate]
  exact if_pos hn

end

theorem State.scanSetShrunk_withLink (s : State) (c : ChannelNo) (l : Link) : (s.withLink l).scanSetShrunk c = (s.scanSetShrunk c).withLink l := by
  cases hround : s.tcv.round with
  | none => rw [State.scanSetShrunk_idle (s := s.withLink l) hround, State.scanSetShrunk_idle hround]
  | some r =>
    by_cases hall : ∀ x : ChannelNo, s.channels[x].state = .disabled
    · rw [State.scanSetShrunk_empty (s := s.withLink l) hall, State.scanSetShrunk_empty hall]
      rfl
    · obtain ⟨x, hx⟩ := not_forall.1 hall
      by_cases hgate : ∃ n, r.gate = .sensor n ∧ sensorChannel n = c
      · obtain ⟨n, hgate, hn⟩ := hgate
        rw [State.scanSetShrunk_dropped (s := s.withLink l) hround hx hgate hn, State.scanSetShrunk_dropped hround hx hgate hn]
        exact s.nextGate_withLink _ l
      · have hkept : ∀ n, r.gate = .sensor n → sensorChannel n ≠ c := fun n hn hc => hgate ⟨n, hn, hc⟩
        rw [State.scanSetShrunk_kept (s := s.withLink l) hround hx hkept, State.scanSetShrunk_kept hround hx hkept]
        rfl

/-! ### START, PAUSE, RESUME and STOP CHANNEL (R66 to R69) -/

section
variable {cb : Byte} {c : ChannelNo} (hc : cb.toNat = c.val)
include hc

theorem startChannelOwner_good (s : State) : startChannelOwner cb s =
    if s.channels[c].state ≠ .disabled then refuse .wrongState s
    else if s.channels[c].zone = none then refuse .wrongState s
    else acceptState c ((s.updChannel c Channel.start).updInput c Input.start).scanSetGrown := withChannel_good hc ..

theorem pauseChannelOwner_good (s : State) : pauseChannelOwner cb s =
    if s.channels[c].state.integrating then acceptState c (s.updChannel c fun r => { r with state := .paused })
    else refuse .wrongState s := withChannel_good hc ..

theorem resumeChannelOwner_good (s : State) : resumeChannelOwner cb s =
    if s.channels[c].state = .paused then acceptState c (s.updChannel c fun r => { r with state := r.status.channelState })
    else refuse .wrongState s := withChannel_good hc ..

theorem stopChannelOwner_good (s : State) : stopChannelOwner cb s =
    if s.channels[c].state = .disabled then acceptState c s else acceptState c (s.stopChannel c) := withChannel_good hc ..

end

theorem acceptState_of_state {c : ChannelNo} {s : State} {st : ChannelState} (h : s.channels[c].state = st) :
    acceptState c s = accept (.channelState c st) s := by rw [acceptState, h]

theorem State.updChannel_get (s : State) (c : ChannelNo) (f : Channel → Channel) : (s.updChannel c f).channels[c] = f s.channels[c] := upd_same ..

theorem ChannelState.not_integrating {st : ChannelState} (h : st = .disabled ∨ st = .paused) : ¬st.integrating = true := by
  rcases h with rfl | rfl
  all_goals nofun

theorem ChannelState.integrating_of {st : ChannelState} (h : st = .running ∨ st = .hold ∨ st = .substitute) : st.integrating = true := by
  rcases h with rfl | rfl | rfl
  all_goals rfl

/-- The channel and its input started (R66, R98). -/
def State.startedChannel (s : State) (c : ChannelNo) : State := (s.updChannel c Channel.start).updInput c Input.start

/-- The channel and its input stopped (R67, R99). -/
def State.stoppedChannel (s : State) (c : ChannelNo) : State := (s.updChannel c fun r => { r with state := .disabled }).updInput c Input.stop

theorem State.startedChannel_get (s : State) (c : ChannelNo) : (s.startedChannel c).channels[c] = s.channels[c].start := s.updChannel_get c _

theorem State.stoppedChannel_other {s : State} {c x : ChannelNo} (h : x ≠ c) : (s.stoppedChannel c).channels[x] = s.channels[x] :=
  upd_other _ _ (Ne.symm h)

theorem State.stoppedChannel_get (s : State) (c : ChannelNo) : (s.stoppedChannel c).channels[c].state = .disabled :=
  congrArg Channel.state (s.updChannel_get c _)

theorem State.scanSetGrown_channels (s : State) : s.scanSetGrown.channels = s.channels := by rw [State.scanSetGrown_frame]; rfl

theorem State.scanSetShrunk_channels (s : State) (c : ChannelNo) : (s.scanSetShrunk c).channels = s.channels := by rw [State.scanSetShrunk_frame]; rfl

/-- The scan set is that of the channels. -/
theorem isScanSet_congr {s t : State} (h : t.channels = s.channels) (l : List SensorNo) : isScanSet t l ↔ isScanSet s l := by
  unfold isScanSet
  rw [h]

section
variable {cb : Byte} {s : State}

theorem exec_startChannel {c : ChannelNo} (hc : cb.toNat = c.val) (h : s.canTake (.startChannel cb) = true) (hstate : s.channels[c].state = .disabled)
    (hzone : s.channels[c].zone ≠ none) : exec (.startChannel cb) s =
      .next ((s.startedChannel c).scanSetGrown.withLink (s.link.answered 0x11 .ok (.channelState c .running))) := by
  have hdone (t : State) : (t.startedChannel c).scanSetGrown.channels[c].state = .running := by
    rw [State.scanSetGrown_channels, State.startedChannel_get]
    rfl
  exact State.next_take_of_act (fun t => (t.startedChannel c).scanSetGrown) h
    (fun l => (startChannelOwner_good hc _).trans ((if_neg (not_not.2 hstate)).trans ((if_neg hzone).trans (acceptState_of_state (hdone _)))))
    fun l => (s.startedChannel c).scanSetGrown_withLink l

theorem exec_stopChannel {c : ChannelNo} (hc : cb.toNat = c.val) (h : s.canTake (.stopChannel cb) = true) (hstate : s.channels[c].state ≠ .disabled) :
    exec (.stopChannel cb) s = .next (((s.stoppedChannel c).scanSetShrunk c).withLink (s.link.answered 0x14 .ok (.channelState c .disabled))) := by
  have hdone (t : State) : ((t.stoppedChannel c).scanSetShrunk c).channels[c].state = .disabled := by
    rw [State.scanSetShrunk_channels, State.stoppedChannel_get]
  exact State.next_take_of_act (fun t => (t.stoppedChannel c).scanSetShrunk c) h
    (fun l => (stopChannelOwner_good hc _).trans ((if_neg hstate).trans (acceptState_of_state (hdone _))))
    fun l => (s.stoppedChannel c).scanSetShrunk_withLink c l

end

theorem State.scanSetGrown_idle {s : State} (h : s.tcv.round = none) : s.scanSetGrown = s.beginRound := if_pos h

theorem State.scanSetGrown_busy {s : State} (h : s.tcv.round ≠ none) : s.scanSetGrown = s := if_neg h

/-- A taken request whose owner changes one channel. -/
theorem State.next_take_of_updChannel {s : State} {i : Instr} {type : Byte} {owner : State → Answer} {k : Content} (c : ChannelNo)
    (g : Channel → Channel) (h : s.canTake i = true) (ho : ∀ l : Link, owner (s.withLink l) = accept k ((s.withLink l).updChannel c g)) :
    Host.Outcome.next (s.take i type owner) =
      (.next ((s.answered type .ok k).withChannels (s.channels.set c (g s.channels[c]))) : Host.Outcome State Fault Refusal) :=
  State.next_take_of_done (State.updChannel · c g) h ho (fun _ _ => rfl) fun _ => rfl

/-- Settles O23. START begins a round where none is in progress; STOP takes the channel's sensors out of the round in progress. -/
theorem channelStateRequests : Obligations.ChannelStateRequests := by
  unfold Obligations.ChannelStateRequests
  refine fun cb s => ⟨fun h => ⟨fun hbad => ?_, fun c hc => ⟨fun hbad => ?_, fun hstate hzone => ?start⟩⟩,
    fun h => ⟨fun hbad => ?_, fun c hc => ⟨fun hbad => ?_, fun hstate => ?pause⟩⟩,
    fun h => ⟨fun hbad => ?_, fun c hc => ⟨fun hbad => ?_, fun hstate => ?resume⟩⟩,
    fun h => ⟨fun hbad => ?_, fun c hc => ⟨fun hstate => ?_, fun hstate => ?stop⟩⟩⟩
  case start =>
    refine ⟨_, exec_startChannel hc h hstate hzone, ?_, fun hround => ?_, fun scan hround hscan => ?_⟩
    · rw [State.scanSetGrown_frame]
      rfl
    · rw [State.scanSetGrown_busy (s := s.startedChannel c) hround]
      rfl
    · have hon : (s.startedChannel c).channels[c].state ≠ .disabled := by
        rw [State.startedChannel_get]
        nofun
      rw [State.scanSetGrown_idle (s := s.startedChannel c) hround, State.beginRound_next hon ((isScanSet_congr (State.scanSetGrown_channels _) scan).1 hscan)]
      rfl
  case pause =>
    exact State.next_take_of_updChannel c (fun r => { r with state := .paused }) h fun l => (pauseChannelOwner_good hc _).trans
      ((if_pos (ChannelState.integrating_of hstate)).trans (acceptState_of_state (congrArg Channel.state (State.updChannel_get ..))))
  case resume =>
    refine ⟨s.channels[c].status.channelState, State.next_take_of_updChannel c (fun r => { r with state := r.status.channelState }) h fun l =>
      (resumeChannelOwner_good hc _).trans ((if_pos hstate).trans (acceptState_of_state (congrArg Channel.state (State.updChannel_get ..)))),
      fun hst => ?_, fun hst => ?_, fun hst => ?_⟩
    all_goals
      rw [hst]
      rfl
  case stop =>
    refine ⟨_, exec_stopChannel hc h hstate, ?_, fun hround => ?_, fun hothers => ?_, fun r kept x hround hx hxstate hkept => ?_⟩
    · rw [State.scanSetShrunk_frame]
      rfl
    · rw [State.scanSetShrunk_idle (s := s.stoppedChannel c) hround]
      rfl
    · have hall : ∀ y : ChannelNo, (s.stoppedChannel c).channels[y].state = .disabled := fun y => by
        by_cases hy : y = c
        · rw [hy]
          exact s.stoppedChannel_get c
        · rw [State.stoppedChannel_other hy]
          exact hothers y hy
      rw [State.scanSetShrunk_empty hall]
      rfl
    · have hon : (s.stoppedChannel c).channels[x].state ≠ .disabled := by rwa [State.stoppedChannel_other hx]
      subst hkept
      refine ⟨fun hgate => ?_, fun n m ms hgate hn hrest => ?_, fun n scan hgate hn hrest hscan => ?_⟩
      · rw [State.scanSetShrunk_kept (s := s.stoppedChannel c) hround hon hgate]
        rfl
      · rw [State.scanSetShrunk_dropped (s := s.stoppedChannel c) hround hon hgate hn, hrest]
        rfl
      · have hscan' := (isScanSet_congr (State.scanSetShrunk_channels _ c) scan).1 hscan
        rw [State.scanSetShrunk_dropped (s := s.stoppedChannel c) hround hon hgate hn, hrest]
        exact congrArg State.tcv (State.beginRound_next hon hscan')
  · exact State.next_take_of_refuse h fun _ => withChannel_bad hbad ..
  · refine State.next_take_of_refuse h fun l => (startChannelOwner_good hc _).trans ?_
    by_cases hstate : s.channels[c].state ≠ .disabled
    · exact if_pos hstate
    · exact (if_neg hstate).trans (if_pos (hbad.resolve_left hstate))
  · exact State.next_take_of_refuse h fun _ => withChannel_bad hbad ..
  · exact State.next_take_of_refuse h fun l => (pauseChannelOwner_good hc _).trans (if_neg (ChannelState.not_integrating hbad))
  · exact State.next_take_of_refuse h fun _ => withChannel_bad hbad ..
  · exact State.next_take_of_refuse h fun l => (resumeChannelOwner_good hc _).trans (if_neg hbad)
  · exact State.next_take_of_refuse h fun _ => withChannel_bad hbad ..
  · exact State.next_take_of_accept h fun l => (stopChannelOwner_good hc _).trans ((if_pos hstate).trans (acceptState_of_state hstate))

/-! ### READ CHANNEL (R84, R95) -/

/-- Settles O24. -/
theorem readChannel : Obligations.ReadChannel := by
  unfold Obligations.ReadChannel
  refine fun cb s h => ⟨fun hbad => ?_, fun c hc => ⟨s.channelRecord c, ?_, rfl, rfl, rfl, rfl, rfl, rfl, rfl, rfl, rfl, rfl, rfl, rfl, rfl, rfl, rfl,
    rfl, fun hknown hflow => ?_, fun hno => ?_⟩⟩
  · exact State.next_take_of_refuse h fun _ => withChannel_bad hbad ..
  · exact State.next_take_of_accept h fun _ => withChannel_good hc ..
  · exact if_pos (by rw [hknown, hflow]; rfl)
  · refine if_neg fun hboth => ?_
    obtain ⟨hknown, hflow⟩ := Bool.and_eq_true_iff.1 hboth
    rcases hno with hno | hno
    · exact Bool.false_ne_true (hno.symm.trans hknown)
    · rw [hno] at hflow
      exact Bool.false_ne_true hflow

end Sys2Proof.Machine

/-! SUPPORT and PROOFS. The temperature converter: its requests, the end of a gate, classification and conversion, and the pair the EIN takes
(R65, R70 to R73, R104 to R116). -/

namespace Sys2Proof.Machine

/-! ### The converter's requests (R104, R105, R116) -/

/-- The four gate lengths. -/
theorem gateLength_iff (w : Word16) : (w.toNat = 1024 ∨ w.toNat = 2048 ∨ w.toNat = 4096 ∨ w.toNat = 8192) ↔
    (w = 1024#16 ∨ w = 2048#16 ∨ w = 4096#16 ∨ w = 8192#16) := by
  simp only [BitVec.toNat_eq]
  rfl

theorem sensorOf_eq_none {b : Byte} (h : 15 < b.toNat) : sensorOf b = none := dif_neg (Nat.not_lt.2 h)

theorem sensorOf_eq_some {b : Byte} {n : SensorNo} (h : b.toNat = n.val) : sensorOf b = some n := index_eq_some h

theorem setCalibrationOwner_good {nb : Byte} {n : SensorNo} (hn : nb.toNat = n.val) (a : Word16) (b : BitVec 32) (s : State) :
    setCalibrationOwner nb a b s = if -65536 ≤ b.toInt ∧ b.toInt ≤ 65535 then
      accept (.calibration n ⟨a.toNat, b.toInt⟩) (s.withTcv { s.tcv with calibration := s.tcv.calibration.set n ⟨a.toNat, b.toInt⟩ })
    else refuse .badValue s := by
  unfold setCalibrationOwner offsetOf
  rw [sensorOf_eq_some hn]
  dsimp only
  by_cases h : -65536 ≤ b.toInt ∧ b.toInt ≤ 65535
  · rw [if_pos h, if_pos h]
  · rw [if_neg h, if_neg h]

theorem sensorIsReturn_iff (n : SensorNo) : sensorIsReturn n = true ↔ n.val % 2 = 1 := beq_iff_eq

theorem State.scanned_iff (s : State) (n : SensorNo) : s.scanned n = true ↔ s.channels[sensorChannel n].state ≠ .disabled := bne_iff_ne

/-- Settles O25. -/
theorem converterRequests : Obligations.ConverterRequests := by
  unfold Obligations.ConverterRequests
  refine ⟨fun g hl s h => ⟨fun h1 h2 h4 h8 => ?_, fun hg => ?_⟩, fun nb a b s h => ⟨fun hbad => ?_, fun n hn => ⟨fun hbad => ?_, fun hlo hhi => ?_⟩⟩,
    fun nb s h => ⟨fun hbad => ?_, fun n hn => ⟨s.sensorReply n, ?_, rfl, rfl, sensorIsReturn_iff n, s.scanned_iff n, rfl, rfl, rfl, rfl, rfl, rfl, rfl⟩⟩⟩
  · have hnone : gateLengthOf g = none := if_neg fun hg => by
      rcases (gateLength_iff g).1 hg with hg | hg | hg | hg
      exacts [h1 hg, h2 hg, h4 hg, h8 hg]
    exact State.next_take_of_refuse h fun l => by rw [configureConverterOwner, hnone]
  · have hsome : gateLengthOf g = some g.toNat := if_pos ((gateLength_iff g).2 hg)
    exact State.next_take_of_done (fun t => t.withTcv { t.tcv with gateLength := g.toNat, holdLimit := hl.toNat }) h
      (fun l => by rw [configureConverterOwner, hsome] <;> rfl) (fun _ _ => rfl) fun _ => rfl
  · exact State.next_take_of_refuse h fun l => by rw [setCalibrationOwner, sensorOf_eq_none hbad]
  · exact State.next_take_of_refuse h fun l => (setCalibrationOwner_good hn a b _).trans (if_neg (by omega))
  · exact State.next_take_of_done (fun t => t.withTcv { t.tcv with calibration := t.tcv.calibration.set n ⟨a.toNat, b.toInt⟩ }) h
      (fun l => (setCalibrationOwner_good hn a b _).trans (if_pos ⟨hlo, hhi⟩)) (fun _ _ => rfl) fun _ => rfl
  · exact State.next_take_of_refuse h fun l => by rw [readSensorOwner, sensorOf_eq_none hbad]
  · exact State.next_take_of_accept h fun l => by rw [readSensorOwner, sensorOf_eq_some hn] <;> rfl

/-! ### The end of a gate (R107, R110, R111, R113, R114) -/

section
variable {s : State} {r : Round} (hrun : s.mainRuns = true) (hround : s.tcv.round = some r)
include hrun hround

theorem State.gateInFlight_of_runs : s.gateInFlight = some r := by
  have hdomain : s.ssv.domain = .running := by simpa [State.mainRuns] using hrun
  exact (if_pos hdomain).trans hround

theorem exec_referenceEnd {i : Instr} {count : Option Nat}
    (hi : (∃ n : BitVec 24, i = .referenceGate n ∧ count = some n.toNat) ∨ (i = .gateOverflow ∧ count = none)) (hgate : r.gate = .reference) :
    exec i s = .next (s.referenceGateEnd r count) := by
  have hflight := State.gateInFlight_of_runs hrun hround
  rcases hi with ⟨n, rfl, rfl⟩ | ⟨rfl, rfl⟩
  · show execReferenceGate n s = _
    unfold execReferenceGate
    rw [hflight]
    dsimp only
    rw [hgate]
  · show execGateOverflow s = _
    unfold execGateOverflow
    rw [hflight]
    dsimp only
    rw [hgate]

theorem exec_sensorEnd {i : Instr} {ts : Option Nat} {n : SensorNo}
    (hi : (∃ k : BitVec 24, i = .gateComplete k ∧ ts = some k.toNat) ∨ (i = .gateOverflow ∧ ts = none)) (hgate : r.gate = .sensor n) :
    exec i s = .next (s.sensorGateEnd n r ts) := by
  have hflight := State.gateInFlight_of_runs hrun hround
  rcases hi with ⟨k, rfl, rfl⟩ | ⟨rfl, rfl⟩
  · show execGateComplete k s = _
    unfold execGateComplete
    rw [hflight]
    dsimp only
    rw [hgate]
  · show execGateOverflow s = _
    unfold execGateOverflow
    rw [hflight]
    dsimp only
    rw [hgate]

end

theorem State.nextGate_nil (s : State) {r : Round} (h : r.rest = []) : s.nextGate r = s.beginRound := by rw [State.nextGate, h]

theorem State.nextGate_cons (s : State) {r : Round} {n : SensorNo} {ns : List SensorNo} (h : r.rest = n :: ns) :
    s.nextGate r = s.withTcv { s.tcv with round := some { r with gate := .sensor n, rest := ns } } := by
  rw [State.nextGate, h]
  rfl

/-- The reference gate's fault: no count, or one below 1,000 (R110). -/
def referenceFault : Option Nat → Bool
  | some n => decide (n < 1000)
  | none => true

theorem referenceFault_iff (count : Option Nat) : referenceFault count = true ↔ ∀ n, count = some n → n < 1000 := by
  cases count with
  | none => simp [referenceFault]
  | some n => simp [referenceFault]

theorem State.referenceGateEnd_eq (s : State) (r : Round) (count : Option Nat) :
    s.referenceGateEnd r count = s.nextGate { r with tref := count, refFault := referenceFault count } := by
  cases count <;> rfl

/-- Settles O26. -/
theorem referenceGate : Obligations.ReferenceGate := by
  unfold Obligations.ReferenceGate
  intro i count s r hi hrun hround hgate
  rw [exec_referenceEnd hrun hround hi hgate, State.referenceGateEnd_eq]
  refine ⟨fun m ms fault hrest hfault => ?_, fun hrest hall => ?_, fun scan hrest hon hscan => ?_⟩
  · have hf : fault = referenceFault count := Bool.eq_iff_iff.2 (hfault.trans (referenceFault_iff count).symm)
    rw [State.nextGate_cons (r := { r with tref := count, refFault := referenceFault count }) s hrest, hf]
  · rw [State.nextGate_nil (r := { r with tref := count, refFault := referenceFault count }) s hrest, State.beginRound_empty hall]
  · obtain ⟨c, hc⟩ := hon
    rw [State.nextGate_nil (r := { r with tref := count, refFault := referenceFault count }) s hrest, State.beginRound_next hc hscan]

section
variable {s : State} {n : SensorNo} {r : Round}

/-- A result keeps the record it makes (R113). -/
theorem SensorRecord.after_eq {res : SensorResult} {ts tref : Option Nat} {round : Word16} {old new : SensorRecord}
    (hvalid : ∀ x cl, res = .valid x cl → new = ⟨.valid, cl, some x, ts, tref, round, old.tally⟩)
    (hfault : ∀ ft, res = .fault ft → new.status = ft.status ∧ new.clamped = false ∧ new.temperature = none ∧ new.ts = ts ∧ new.tref = tref ∧
      new.round = round ∧ new.tally = min (old.tally + 1) 65535) : SensorRecord.after res ts tref round old = new := by
  cases res with
  | valid x cl => exact (hvalid x cl rfl).symm
  | fault ft =>
    obtain ⟨hst, hcl, htemp, hts, htref, hround, htally⟩ := hfault ft rfl
    show (⟨ft.status, false, none, ts, tref, round, satAdd 65535 old.tally 1⟩ : SensorRecord) = new
    rw [satAdd_eq_min, ← hst, ← hcl, ← htemp, ← hts, ← htref, ← hround, ← htally]

theorem State.sensorGateEnd_flow (h : n.val % 2 = 0) (ts : Option Nat) : s.sensorGateEnd n r ts =
    (s.recordResult n r ts (classify s.tcv.calibration[n] r ts)).nextGate { r with flow := some (classify s.tcv.calibration[n] r ts) } :=
  if_neg fun hr => absurd ((sensorIsReturn_iff n).1 hr) (by omega)

theorem State.sensorGateEnd_return (h : n.val % 2 = 1) {f : SensorResult} (hf : r.flow = some f) (ts : Option Nat) : s.sensorGateEnd n r ts =
    ((s.recordResult n r ts (classify s.tcv.calibration[n] r ts)).takePair (sensorChannel n) f (classify s.tcv.calibration[n] r ts)).nextGate
      { r with flow := none } := by
  unfold State.sensorGateEnd
  rw [hf]
  exact if_pos ((sensorIsReturn_iff n).2 h)

end

/-- Settles O27. -/
theorem sensorGate : Obligations.SensorGate := by
  unfold Obligations.SensorGate
  intro i ts s r n res old new hi hrun hround hgate hres hold hvalid hfault
  subst hres hold
  have hrecord : s.recordResult n r ts (classify s.tcv.calibration[n] r ts) = s.withTcv { s.tcv with last := s.tcv.last.set n new } := by
    rw [← SensorRecord.after_eq hvalid hfault]
    rfl
  rw [exec_sensorEnd hrun hround hi hgate]
  refine ⟨fun heven => ?_, fun f hodd hf => ?_⟩
  · rw [State.sensorGateEnd_flow heven, hrecord]
  · rw [State.sensorGateEnd_return hodd hf, hrecord]

/-! ### Classification and conversion (R111, R112) -/

/-- The nearest integer to the quotient stays in its range when the count is at most twice the reference's. -/
theorem ratioTerm_le {a t ref : Nat} (href : 0 < ref) (ht : t ≤ 2 * ref) (ha : a ≤ 65535) : ratioTerm a t ref ≤ 131070 := by
  have hprod : a * t ≤ 131070 * ref :=
    calc a * t ≤ 65535 * (2 * ref) := Nat.mul_le_mul ha ht
      _ = 131070 * ref := by ring
  have hq : a * t / ref ≤ 131070 := Nat.div_le_of_le_mul (by rw [Nat.mul_comm ref]; exact hprod)
  unfold ratioTerm
  split
  · next hround =>
    by_contra hbig
    have hq' : a * t / ref = 131070 := by omega
    have hdiv := Nat.div_add_mod (a * t) ref
    rw [hq', Nat.mul_comm] at hdiv
    omega
  · exact hq

section
variable {cal : Calibration} {r : Round} {t ref : Nat} (hr : r.refFault = false) (href : r.tref = some ref)
include hr href

theorem classify_counted : classify cal r (some t) =
    if 2 * ref < t then .fault .openCircuit else if 2 * t < ref then .fault .short else convert cal t ref := by
  unfold classify
  rw [hr, href]
  exact if_neg Bool.false_ne_true

end

theorem clampResult_low {x : Int} (h : x < -5000) : clampResult x = .valid (-5000) true := if_pos h

theorem clampResult_high {x : Int} (h : 15000 < x) : clampResult x = .valid 15000 true := (if_neg (by omega)).trans (if_pos h)

theorem clampResult_within {x : Int} (hlo : -5000 ≤ x) (hhi : x ≤ 15000) : clampResult x = .valid x false :=
  (if_neg (by omega)).trans (if_neg (by omega))

/-- Settles O28. -/
theorem classification : Obligations.Classification := by
  unfold Obligations.Classification
  refine fun cal r ts => ⟨fun hr => if_pos hr, fun hr hts => ?_, fun t ref hr hts href hpos => ?_⟩
  · subst hts
    unfold classify
    rw [hr]
    rfl
  · subst hts
    rw [classify_counted hr href]
    refine ⟨fun hopen => if_pos hopen, fun hshort => (if_neg (by omega)).trans (if_pos hshort), fun hle hge => ?_⟩
    have hconvert : (if 2 * ref < t then SensorResult.fault .openCircuit else if 2 * t < ref then .fault .short else convert cal t ref) =
        convert cal t ref := (if_neg (Nat.not_lt.2 hle)).trans (if_neg (Nat.not_lt.2 hge))
    refine ⟨cal.a * t / ref, cal.a * t % ref, ratioTerm cal.a t ref, (Nat.div_add_mod' ..).symm, Nat.mod_lt _ hpos, fun hdown => ?_, fun hup => ?_,
      ratioTerm_le hpos hle, fun hlow => ?_, fun hhigh => ?_, fun hlo hhi => ?_⟩
    · exact if_neg (Nat.not_le.2 hdown)
    · exact if_pos hup
    · exact hconvert.trans (clampResult_low hlow)
    · exact hconvert.trans (clampResult_high hhigh)
    · exact hconvert.trans (clampResult_within hlo hhi)

/-! ### A result pair (R65, R70 to R73) -/

section
variable {st : SensorStatus} {limit n : Nat}

theorem nextStatus_valid : nextStatus true limit st n = (.normal, 0, false) := rfl

theorem nextStatus_hold_within (h : n + 1 ≤ limit) : nextStatus false limit .hold n = (.hold, n + 1, false) := if_neg (Nat.not_lt.2 h)

theorem nextStatus_hold_over (h : limit < n + 1) : nextStatus false limit .hold n = (.substitute, n + 1, true) := if_pos h

theorem nextStatus_normal_hold (h : 0 < limit) : nextStatus false limit .normal n = (.hold, 0, true) := by
  show (if limit = 0 then _ else _, 0, true) = _
  rw [if_neg (Nat.pos_iff_ne_zero.1 h)]

theorem nextStatus_normal_none (h : limit = 0) : nextStatus false limit .normal n = (.substitute, 0, true) := by
  show (if limit = 0 then _ else _, 0, true) = _
  rw [if_pos h]

end

/-- A pair taken changes the channel, and CHANNEL_FAULT when the status table says so. -/
theorem State.takePair_eq {s : State} {c : ChannelNo} {f r : SensorResult} (h : s.channels[c].state ≠ .disabled) : s.takePair c f r =
    (s.updChannel c (Channel.takePair s.tcv.holdLimit f r)).withLink { s.link with flags := { s.link.flags with
      channelFault := s.link.flags.channelFault || (s.channels[c].pairOutcome s.tcv.holdLimit f r).2.2 } } := by
  unfold State.takePair
  rw [if_neg h]
  dsimp only
  split
  · next hfault =>
    rw [hfault, Bool.or_true]
    rfl
  · next hfault =>
    rw [Bool.eq_false_iff.2 hfault, Bool.or_false]
    rfl

theorem ChannelState.integrating_of_ne {st : ChannelState} (hd : st ≠ .disabled) (hp : st ≠ .paused) : st.integrating = true := by
  cases st
  · exact absurd rfl hd
  · rfl
  · rfl
  · rfl
  · exact absurd rfl hp

/-- Settles O29. -/
theorem resultPair : Obligations.ResultPair := by
  unfold Obligations.ResultPair
  refine fun s c f r => ⟨fun h => if_pos h, fun h => ⟨_, _, _, (if s.channels[c].state.integrating then
      (s.channels[c].pairOutcome s.tcv.holdLimit f r).1.channelState else s.channels[c].state), _, _, State.takePair_eq h, ?_, ?_, ?_, ?_,
      fun hf hr => ?both, fun hbad => ?table, fun hpaused => ?_, fun hpaused => ?_⟩, fun y k => ⟨inc32_eq_min k, rfl⟩, fun ft k => rfl⟩
  · rintro y cl rfl
    rfl
  · rintro ft rfl
    rfl
  · rintro y cl rfl
    rfl
  · rintro ft rfl
    rfl
  case both =>
    have hout : s.channels[c].pairOutcome s.tcv.holdLimit f r = (.normal, 0, false) := by
      unfold Channel.pairOutcome
      rw [hf, hr]
      rfl
    rw [hout]
    exact ⟨rfl, rfl, rfl⟩
  case table =>
    have hboth : (f.isValid && r.isValid) = false := Bool.and_eq_false_iff.2 hbad
    unfold Channel.pairOutcome
    rw [hboth]
    refine ⟨fun hst hlimit => ?_, fun hst hlimit => ?_, fun hst hcount => ?_, fun hst hcount => ?_, fun hst => ?_⟩
    · rw [hst, nextStatus_normal_hold hlimit]
      exact ⟨rfl, rfl, rfl⟩
    · rw [hst, nextStatus_normal_none hlimit]
      exact ⟨rfl, rfl, rfl⟩
    · rw [hst, nextStatus_hold_within hcount]
      exact ⟨rfl, rfl, rfl⟩
    · rw [hst, nextStatus_hold_over hcount]
      exact ⟨rfl, rfl, rfl⟩
    · rw [hst]
      exact ⟨rfl, rfl, rfl⟩
  · rw [hpaused]
    rfl
  · rw [if_pos (ChannelState.integrating_of_ne h hpaused)]
    refine ⟨fun hst => ?_, fun hst => ?_, fun hst => ?_⟩
    all_goals
      rw [hst]
      rfl

end Sys2Proof.Machine

/-! SUPPORT and PROOFS. The pulse inputs and the energy of a pulse: one tick of an input (R89 to R97), the ticks that are named events, and the
exact product (R77 to R79). -/

namespace Sys2Proof.Machine

/-! ### The filter of one input (R89 to R94) -/

namespace Input
variable {i : Input} {x : Level}

/-- The counter advanced, and compared with the no-flow limit (R93, R97). -/
def counted (i : Input) : Input :=
  { i with counter := min (i.counter + 1) 16777215, noFlow := i.noFlow || min (i.counter + 1) 16777215 == i.noFlowLimit * 1024 }

/-- The stability count with this sample, when it is not the accepted level (R89). -/
def stabilityWith (i : Input) (x : Level) : Nat := if i.candidate = some x then i.stability + 1 else 1

/-- The candidate becomes the accepted level (R89). -/
def settledAt (i : Input) (x : Level) : Input := { i.counted with accepted := some x, candidate := none, stability := 0 }

theorem advance_compare (i : Input) : i.advance.compare = i.counted := by
  have hcounter : i.advance = { i with counter := min (i.counter + 1) 16777215 } := by
    unfold advance
    rw [satAdd_eq_min]
    rfl
  unfold compare counted
  rw [hcounter]
  dsimp only
  split
  · next h => rw [beq_iff_eq.2 h, Bool.or_true]
  · next h => rw [beq_eq_false_iff_ne.2 h, Bool.or_false]

theorem tick_eq (i : Input) (x : Level) : i.tick x =
    if pulseFound i.edge i.accepted (i.counted.sampleLevel x).settleLevel.accepted then (i.counted.sampleLevel x).settleLevel.pulse
    else (i.counted.sampleLevel x).settleLevel := by
  unfold tick
  rw [i.advance_compare]

theorem pulseFound_same (e : Edge) (a : Option Level) : ¬pulseFound e a a = true := by
  cases a with
  | none => nofun
  | some l => cases e <;> cases l <;> nofun

/-- A sample at the accepted level. -/
theorem tick_of_accepted (h : i.accepted = some x) : i.tick x = { i.counted with candidate := none, stability := 0 } := by
  have hsample : i.counted.sampleLevel x = { i.counted with candidate := none, stability := 0 } := if_pos h
  have hsettle : (i.counted.sampleLevel x).settleLevel = { i.counted with candidate := none, stability := 0 } := by
    rw [hsample]
    exact if_neg fun hc => absurd hc.1 nofun
  rw [tick_eq, hsettle]
  exact if_neg (pulseFound_same _ _)

section
variable (h : i.accepted ≠ some x)
include h

theorem sampleLevel_of_other : i.counted.sampleLevel x = { i.counted with candidate := some x, stability := i.stabilityWith x } := by
  unfold stabilityWith
  refine (if_neg h).trans ?_
  by_cases hc : i.candidate = some x
  · rw [if_pos (show i.counted.candidate = some x from hc), if_pos hc, ← hc]
    rfl
  · rw [if_neg (show ¬i.counted.candidate = some x from hc), if_neg hc]

/-- A sample away from the accepted level that does not complete the stability count. -/
theorem tick_of_counting (hk : i.stabilityWith x < 2 * i.filter) :
    i.tick x = { i.counted with candidate := some x, stability := i.stabilityWith x } := by
  have hsettle : (i.counted.sampleLevel x).settleLevel = { i.counted with candidate := some x, stability := i.stabilityWith x } := by
    rw [sampleLevel_of_other h]
    exact if_neg fun hc => absurd hc.2 (Nat.not_le.2 hk)
  rw [tick_eq, hsettle]
  exact if_neg (pulseFound_same _ _)

/-- A sample that completes the stability count: the level is accepted, and the step to it may be a pulse. -/
theorem tick_of_settled (hk : 2 * i.filter ≤ i.stabilityWith x) :
    i.tick x = if pulseFound i.edge i.accepted (some x) then (i.settledAt x).pulse else i.settledAt x := by
  have hsettle : (i.counted.sampleLevel x).settleLevel = i.settledAt x := by
    rw [sampleLevel_of_other h]
    exact if_pos ⟨rfl, hk⟩
  rw [tick_eq, hsettle]
  rfl

end

/-- The steps that are no pulse: settling, and an edge that is not selected (R90, R91). -/
theorem not_pulseFound {e : Edge} {a : Option Level}
    (h : a = none ∨ (e = .rising ∧ x = .low) ∨ (e = .falling ∧ x = .high)) : ¬pulseFound e a (some x) = true := by
  rcases h with rfl | ⟨rfl, rfl⟩ | ⟨rfl, rfl⟩
  · nofun
  · cases a with
    | none => nofun
    | some l => cases l <;> nofun
  · cases a with
    | none => nofun
    | some l => cases l <;> nofun

/-- The steps that are a pulse (R91). -/
theorem pulseFound_of_selected {e : Edge} {a : Option Level} (hne : a ≠ some x) (ha : a ≠ none)
    (h : e = .both ∨ (e = .rising ∧ x = .high) ∨ (e = .falling ∧ x = .low)) : pulseFound e a (some x) = true := by
  obtain ⟨l, rfl⟩ := Option.ne_none_iff_exists'.1 ha
  have hl : l ≠ x := fun hx => hne (congrArg some hx)
  rcases h with rfl | ⟨rfl, rfl⟩ | ⟨rfl, rfl⟩
  · cases l with
    | low =>
      cases x with
      | low => exact absurd rfl hl
      | high => rfl
    | high =>
      cases x with
      | low => rfl
      | high => exact absurd rfl hl
  · cases l with
    | low => rfl
    | high => exact absurd rfl hl
  · cases l with
    | low => exact absurd rfl hl
    | high => rfl

end Input

/-! ### One tick (R92, R100) -/

section
variable {s : State} {c : ChannelNo}

theorem State.samples_iff (s : State) (c : ChannelNo) : s.samples c = true ↔ s.ssv.powered = true ∧ s.inputs[c].running = true := Bool.and_eq_true_iff

theorem State.takeHandover_none (h : s.inputs[c].handover = none) : s.takeHandover c = s := by
  unfold State.takeHandover
  rw [h]

theorem State.takeHandover_some {p : Pulse} (h : s.inputs[c].handover = some p) :
    s.takeHandover c = (s.updInput c fun i => { i with handover := none }).takePulse c p := by
  unfold State.takeHandover
  rw [h]

theorem State.takePulse_inputs (s : State) (c : ChannelNo) (p : Pulse) : (s.takePulse c p).inputs = s.inputs := by
  rw [State.takePulse_frame]
  rfl

theorem State.takePulse_ssv (s : State) (c : ChannelNo) (p : Pulse) : (s.takePulse c p).ssv = s.ssv := by
  rw [State.takePulse_frame]
  rfl

theorem State.updInput_get (s : State) (c : ChannelNo) (f : Input → Input) : (s.updInput c f).inputs[c] = f s.inputs[c] := upd_same ..

/-- The handover is empty once the EIN has looked. -/
theorem State.takeHandover_input (s : State) (c : ChannelNo) : (s.takeHandover c).inputs[c] = { s.inputs[c] with handover := none } := by
  cases hp : s.inputs[c].handover with
  | none => rw [State.takeHandover_none hp, ← hp]
  | some p =>
    rw [State.takeHandover_some hp, State.takePulse_inputs]
    exact s.updInput_get c _

theorem State.tick_of_stopped (h : s.inputs[c].running = false ∨ s.ssv.powered = false) (x : Sample) : s.tick c x = s := by
  refine if_neg fun hs => ?_
  obtain ⟨hp, hr⟩ := (s.samples_iff c).1 hs
  rcases h with h | h
  · exact Bool.false_ne_true (h.symm.trans hr)
  · exact Bool.false_ne_true (h.symm.trans hp)

variable (hrun : s.inputs[c].running = true) (hpow : s.ssv.powered = true)
include hrun hpow

theorem State.tick_of_running (x : Level) (now : Bool) : s.tick c ⟨x, now⟩ =
    if now then ((s.takeHandover c).updInput c (Input.tick x)).takeHandover c else (s.takeHandover c).updInput c (Input.tick x) :=
  if_pos ((s.samples_iff c).2 ⟨hpow, hrun⟩)

/-- The pulse of the tick before is taken first. -/
theorem State.tick_of_handover {p : Pulse} (hp : s.inputs[c].handover = some p) (x : Level) (now : Bool) :
    s.tick c ⟨x, now⟩ = ((s.updInput c fun i => { i with handover := none }).takePulse c p).tick c ⟨x, now⟩ := by
  have hinput : ((s.updInput c fun i => { i with handover := none }).takePulse c p).inputs[c] = { s.inputs[c] with handover := none } := by
    rw [State.takePulse_inputs]
    exact s.updInput_get c _
  have hnone : ((s.updInput c fun i => { i with handover := none }).takePulse c p).takeHandover c =
      (s.updInput c fun i => { i with handover := none }).takePulse c p := State.takeHandover_none (by rw [hinput])
  rw [State.tick_of_running hrun hpow, State.tick_of_running (by rw [hinput]; exact hrun) (by rw [State.takePulse_ssv]; exact hpow), hnone,
    State.takeHandover_some hp]

variable (hh : s.inputs[c].handover = none)
include hh

/-- A tick that finds no pulse. -/
theorem State.tick_quiet {x : Level} {j : Input} (hj : s.inputs[c].tick x = j) (hjh : j.handover = none) (now : Bool) :
    s.tick c ⟨x, now⟩ = s.withInputs (s.inputs.set c j) := by
  have hget : (s.updInput c (Input.tick x)).inputs[c] = j := (s.updInput_get c _).trans hj
  rw [State.tick_of_running hrun hpow, State.takeHandover_none hh, State.takeHandover_none (by rw [hget, hjh]), ite_self, ← hj]
  rfl

/-- A tick that finds a pulse. -/
theorem State.tick_pulse {x : Level} {j : Input} (hj : s.inputs[c].tick x = j.pulse) (now : Bool) :
    s.tick c ⟨x, now⟩ =
      if now then (s.withInputs (s.inputs.set c { j.pulse with handover := none })).takePulse c j.capture
      else s.withInputs (s.inputs.set c j.pulse) := by
  have hupd : s.updInput c (Input.tick x) = s.withInputs (s.inputs.set c j.pulse) := by
    rw [← hj]
    rfl
  have hget : (s.withInputs (s.inputs.set c j.pulse)).inputs[c] = j.pulse := set_same ..
  have htake : (s.withInputs (s.inputs.set c j.pulse)).takeHandover c =
      (s.withInputs (s.inputs.set c { j.pulse with handover := none })).takePulse c j.capture := by
    have hclear : ((s.withInputs (s.inputs.set c j.pulse)).updInput c fun i => { i with handover := none }) =
        s.withInputs (s.inputs.set c { j.pulse with handover := none }) := by
      show s.withInputs ((s.inputs.set c j.pulse).set c { (s.withInputs (s.inputs.set c j.pulse)).inputs[c] with handover := none }) = _
      rw [hget, Vector.set_set]
    rw [State.takeHandover_some (congrArg Input.handover hget), hclear]
  rw [State.tick_of_running hrun hpow, State.takeHandover_none hh, hupd, htake]

end

theorem exec_tick (c : ChannelNo) (x : Sample) (s : State) : exec (.tick c x) s = .next (s.tick c x) := rfl

/-- Settles O30. -/
theorem tick : Obligations.Tick := by
  unfold Obligations.Tick
  intro c x now s i n k hi
  subst hi
  refine ⟨fun h => congrArg _ (State.tick_of_stopped h _), fun p hrun hpow hp => congrArg Host.Outcome.next (State.tick_of_handover hrun hpow hp x now),
    fun hrun hpow hh hn hk => ?_⟩
  subst hn hk
  refine ⟨fun hacc => ?_, fun hacc hcount => ?_, fun hacc hdone hno => ?_, fun j hacc hdone hknown hsel hj => ?pulse⟩
  · exact congrArg _ (State.tick_quiet hrun hpow hh (Input.tick_of_accepted hacc) hh now)
  · exact congrArg _ (State.tick_quiet hrun hpow hh (Input.tick_of_counting hacc hcount) hh now)
  · exact congrArg _ (State.tick_quiet hrun hpow hh ((Input.tick_of_settled hacc hdone).trans (if_neg (Input.not_pulseFound hno))) hh now)
  case pulse =>
    have hfound := (Input.tick_of_settled hacc hdone).trans (if_pos (Input.pulseFound_of_selected hacc hknown hsel))
    have hpulse := State.tick_pulse hrun hpow hh hfound now
    have hquiet : { (s.inputs[c].settledAt x).pulse with handover := none } = j := by
      rw [hj, ← hh]
      rfl
    rw [exec_tick, hpulse, ← hquiet]
    refine ⟨?_, ?_⟩
    · rintro rfl
      rfl
    · rintro rfl
      rfl

/-! ### The ticks that are named events (R89, R90, R97) -/

section
variable {s : State} {c : ChannelNo} {x : Level} (hrun : s.inputs[c].running = true) (hpow : s.ssv.powered = true)
include hrun hpow

/-- The pulse of the tick before aside, the input of a tick is its own work. -/
theorem State.tick_input (now : Bool) : ∃ h, (s.tick c ⟨x, now⟩).inputs[c] = { Input.tick x { s.inputs[c] with handover := none } with handover := h } := by
  have hticked : ((s.takeHandover c).updInput c (Input.tick x)).inputs[c] = Input.tick x { s.inputs[c] with handover := none } := by
    rw [State.updInput_get, State.takeHandover_input]
  rw [State.tick_of_running hrun hpow]
  split
  · refine ⟨none, ?_⟩
    rw [← hticked]
    exact State.takeHandover_input ..
  · exact ⟨_, hticked⟩

/-- A sample that completes the stability count is accepted. -/
theorem State.tick_accepts (hne : s.inputs[c].accepted ≠ some x) (hk : 2 * s.inputs[c].filter ≤ s.inputs[c].stabilityWith x) (now : Bool) :
    (s.tick c ⟨x, now⟩).inputs[c].accepted = some x := by
  obtain ⟨h, hinput⟩ := State.tick_input (x := x) hrun hpow now
  have htick := Input.tick_of_settled (i := { s.inputs[c] with handover := none }) hne hk
  rw [hinput, htick]
  split <;> rfl

omit hrun hpow in
theorem State.candidateTick_of_completes {allowed : Bool} (hcand : s.inputs[c].candidate = some x) (hallowed : allowed = true)
    (hne : s.inputs[c].accepted ≠ some x) (hk : 2 * s.inputs[c].filter ≤ s.inputs[c].stability + 1) :
    s.candidateTick c allowed = s.tick c ⟨x, true⟩ := by
  have hcompletes : s.inputs[c].completes = true := by
    unfold Input.completes
    rw [hcand, decide_eq_true (show s.inputs[c].acceptance ≤ s.inputs[c].stability + 1 from hk), bne_iff_ne.2 (Ne.symm hne)]
    rfl
  unfold State.candidateTick
  rw [hcand]
  exact if_pos (Bool.and_eq_true_iff.2 ⟨hallowed, hcompletes⟩)

end

/-- Settles O31. -/
theorem tickEvents : Obligations.TickEvents := by
  unfold Obligations.TickEvents
  refine fun c x s hrun hpow => ⟨fun l hcand hacc hl hk => ?_, fun hcand hacc hk => ?_, fun hlimit hacc now => ?_⟩
  · have hne : s.inputs[c].accepted ≠ some x := by
      rw [hacc]
      exact fun he => hl (Option.some.inj he)
    have hcount : 2 * s.inputs[c].filter ≤ s.inputs[c].stabilityWith x := hk.trans_eq (if_pos hcand).symm
    have hallowed : s.inputs[c].accepted.isSome = true := by
      rw [hacc]
      rfl
    exact ⟨s.tick c ⟨x, true⟩, congrArg Host.Outcome.next (State.candidateTick_of_completes hcand hallowed hne hk), rfl,
      State.tick_accepts hrun hpow hne hcount true⟩
  · have hne : s.inputs[c].accepted ≠ some x := by
      rw [hacc]
      nofun
    have hcount : 2 * s.inputs[c].filter ≤ s.inputs[c].stabilityWith x := hk.trans_eq (if_pos hcand).symm
    have hallowed : s.inputs[c].accepted.isNone = true := by
      rw [hacc]
      rfl
    exact ⟨s.tick c ⟨x, true⟩, congrArg Host.Outcome.next (State.candidateTick_of_completes hcand hallowed hne hk), rfl,
      State.tick_accepts hrun hpow hne hcount true⟩
  · have hat : s.inputs[c].advance.counter = s.inputs[c].noFlowLimit * 1024 := (satAdd_eq_min ..).trans hlimit
    refine ⟨s.tick c ⟨x, now⟩, congrArg Host.Outcome.next (if_pos hat), rfl, ?_⟩
    obtain ⟨h, hinput⟩ := State.tick_input (x := x) hrun hpow now
    rw [hinput, Input.tick_of_accepted (i := { s.inputs[c] with handover := none }) hacc]
    show (s.inputs[c].noFlow || min (s.inputs[c].counter + 1) 16777215 == s.inputs[c].noFlowLimit * 1024) = true
    rw [hlimit, beq_self_eq_true, Bool.or_true]

/-! ### The energy of a pulse (R77 to R79) -/

theorem Accum.add_eq (limit : Nat) (a : Accum) (e : Nat) :
    a.add limit e = ⟨min (a.value + e) limit, a.saturated || decide (limit < a.value + e)⟩ := by
  unfold Accum.add
  rw [satAdd_eq_min]
  rfl

/-- The greatest product and carry. -/
theorem product_le {v dT k y : Nat} (hv : v ≤ 65535) (hd : dT ≤ 20000) (hk : k ≤ 65535) (hy : y < 100000000) :
    (v * dT * k + y) / 100000000 ≤ 858968 := by
  have hprod : v * dT * k ≤ 65535 * 20000 * 65535 := Nat.mul_le_mul (Nat.mul_le_mul hv hd) hk
  omega

/-- Settles O33. -/
theorem pulseEnergy : Obligations.PulseEnergy := by
  unfold Obligations.PulseEnergy
  intro b est dT ch x e hx he
  subst hx he
  refine ⟨ch.opn.add b est (ch.product dT / 100000000), ?_, ?_, fun y hy => ?_, ?_, ?_, fun hv hd hk hy => product_le hv hd hk hy⟩
  · unfold Channel.integrate
    simp only [satAdd_eq_min]
    rfl
  · exact (upd_same ..).trans (Accum.add_eq ..)
  · exact upd_other _ _ (Ne.symm hy)
  · rintro rfl
    rfl
  · rintro rfl
    exact Accum.add_eq ..

end Sys2Proof.Machine

/-! SUPPORT and PROOFS. The requests that configure, start and stop the allocator bus and its sweep (R122 to R125, R138). -/

namespace Sys2Proof.Machine

/-! ### What an act of the ATU does, whatever LINK holds -/

/-- On `s`, whatever LINK holds, `A` changes the nodes, the zones, the unit, the bus totals and LINK's flags alone. -/
def ActsOn (A : State → State) (s : State) : Prop :=
  ∃ (nodes : List NodeEntry) (zones : Vector Zone 16) (atu : Atu) (totals : BusTotals) (flags : EventFlags → EventFlags),
    ∀ l : Link, A (s.withLink l) =
      ((((s.withNodes nodes).withZones zones).withAtu atu).withAbm { s.abm with totals := totals }).withLink { l with flags := flags l.flags }

namespace ActsOn
variable {A B : State → State} {s : State}

theorem congr (hB : ActsOn B s) (h : ∀ l : Link, A (s.withLink l) = B (s.withLink l)) : ActsOn A s := by
  obtain ⟨n, z, u, t, f, hB⟩ := hB
  exact ⟨n, z, u, t, f, fun l => (h l).trans (hB l)⟩

theorem comp (hA : ActsOn A s) (hB : ActsOn B (A s)) : ActsOn (fun x => B (A x)) s := by
  obtain ⟨n, z, u, t, f, hA⟩ := hA
  obtain ⟨n', z', u', t', f', hB⟩ := hB
  have hs : A s = _ := hA s.link
  refine ⟨n', z', u', t', fun x => f' (f x), fun l => ?_⟩
  have hl : A (s.withLink l) = (A s).withLink { l with flags := f l.flags } := by
    rw [hA l, hs]
    rfl
  show B (A (s.withLink l)) = _
  rw [hl, hB, hs]
  rfl

variable (s)

theorem id : ActsOn (fun x => x) s := ⟨s.nodes, s.zones, s.atu, s.abm.totals, fun f => f, fun _ => rfl⟩

theorem updNode (x : Serial) (f : NodeEntry → NodeEntry) : ActsOn (State.updNode · x f) s := ⟨(s.updNode x f).nodes, s.zones, s.atu, s.abm.totals, fun f => f, fun _ => rfl⟩

theorem updZone (z : ZoneNo) (f : Zone → Zone) : ActsOn (State.updZone · z f) s := ⟨s.nodes, (s.updZone z f).zones, s.atu, s.abm.totals, fun f => f, fun _ => rfl⟩

theorem withAtu (f : Atu → Atu) : ActsOn (fun x => x.withAtu (f x.atu)) s := ⟨s.nodes, s.zones, f s.atu, s.abm.totals, fun f => f, fun _ => rfl⟩

theorem countAtu (f : AtuCounters → AtuCounters) : ActsOn (State.countAtu · f) s := ⟨s.nodes, s.zones, (s.countAtu f).atu, s.abm.totals, fun f => f, fun _ => rfl⟩

theorem countTotal (f : BusTotals → BusTotals) : ActsOn (State.countTotal · f) s := ⟨s.nodes, s.zones, s.atu, f s.abm.totals, fun f => f, fun _ => rfl⟩

theorem flag (f : EventFlags → EventFlags) : ActsOn (State.flag · f) s := ⟨s.nodes, s.zones, s.atu, s.abm.totals, f, fun _ => rfl⟩

theorem halt (e : NodeEntry) : ActsOn (State.halt · e) s := by
  by_cases h : e.state = .halted
  · exact .congr (.id s) (fun _ => if_pos h)
  · exact .congr ((updNode s e.serial _).comp (.flag _ _)) (fun _ => if_neg h)

theorem migrate (e : NodeEntry) (z : ZoneNo) : ActsOn (State.migrate · e z) s := by
  by_cases h : e.zone = z
  · exact .congr (.id s) (fun _ => if_pos h)
  · exact .congr ((updNode s e.serial _).comp (.countTotal _ _)) (fun _ => if_neg h)

theorem orphaned (n : Nat) : ActsOn (State.orphaned · n) s :=
  (withAtu s fun a => { a with orphan := satAdd lim48 a.orphan n }).comp (.countTotal _ _)

theorem quarantined (x : Serial) (n : Nat) : ActsOn (State.quarantined · x n) s := (updNode s x _).comp (.countAtu _ _)

theorem addU (z : ZoneNo) (n : Nat) : ActsOn (State.addU · z n) s := updZone s z _

theorem addW (z : ZoneNo) (a : AccountNo) (n : Nat) : ActsOn (State.addW · z a n) s := updZone s z _

end ActsOn

theorem State.migrate_withLink (s : State) (e : NodeEntry) (z : ZoneNo) (l : Link) : (s.withLink l).migrate e z = (s.migrate e z).withLink l := by
  unfold State.migrate
  rw [apply_ite (State.withLink · l)]
  rfl

/-- Units that are neither orphaned nor quarantined. -/
theorem ActsOn.destination_of_placed {s : State} {e : NodeEntry} {r : Reading} (hzone : s.zones[r.zone].state ≠ .unused)
    (htamper : r.status ≠ .tamper) (hhalted : e.state ≠ .halted) : ActsOn (State.destination · e r) s := by
  have pooled (f : AtuCounters → AtuCounters) : ActsOn (fun x => ((x.migrate e r.zone).addU r.zone (r.units * 1000)).countAtu f) s :=
    (((ActsOn.migrate s e r.zone).comp (.addU _ _ _)).comp (.countAtu _ _))
  have hpoint (l : Link) : ((s.withLink l).migrate e r.zone).matchingPoint r.serial r.zone = (s.migrate e r.zone).matchingPoint r.serial r.zone := by
    rw [State.migrate_withLink]
    rfl
  cases hp : (s.migrate e r.zone).matchingPoint r.serial r.zone with
  | none => exact .congr (pooled _) (fun l => State.destination_of_unmatched (s := s.withLink l) hzone htamper hhalted ((hpoint l).trans hp))
  | some i =>
    have hmatched (l : Link) := State.destination_of_matched (s := s.withLink l) hzone htamper hhalted ((hpoint l).trans hp)
    simp only [State.migrate_withLink, State.withLink_points, State.withLink_zones] at hmatched
    by_cases hkind : (s.migrate e r.zone).points[i].kind ≠ r.kind
    · exact .congr (pooled .addMismatch) (fun l => by rw [hmatched l, if_pos hkind, State.migrate_withLink])
    · by_cases hmember : (s.migrate e r.zone).zones[r.zone].hasMember (s.migrate e r.zone).points[i].account = true
      · exact .congr (((ActsOn.migrate s e r.zone).comp (.addW _ r.zone (s.migrate e r.zone).points[i].account
            (r.units * (s.migrate e r.zone).points[i].factor))).comp (.countAtu _ .addMember)) fun l =>
          (hmatched l).trans <| (if_neg hkind).trans <| (if_pos hmember).trans <| congrArg (fun t : State =>
            (t.addW r.zone (s.migrate e r.zone).points[i].account (r.units * (s.migrate e r.zone).points[i].factor)).countAtu .addMember)
            (s.migrate_withLink e r.zone l).symm
      · exact .congr (pooled .addNonMember) (fun l => by rw [hmatched l, if_neg hkind, if_neg hmember, State.migrate_withLink])

theorem ActsOn.destination (s : State) (e : NodeEntry) (r : Reading) : ActsOn (State.destination · e r) s := by
  by_cases hzone : s.zones[r.zone].state = .unused
  · by_cases htamper : r.status = .tamper
    · exact .congr ((ActsOn.halt s e).comp (.orphaned _ r.units)) fun l => (if_pos hzone).trans (congrArg (State.orphaned · r.units) (if_pos htamper))
    · exact .congr (ActsOn.orphaned s r.units) fun l => (if_pos hzone).trans (congrArg (State.orphaned · r.units) (if_neg htamper))
  · by_cases htamper : r.status = .tamper
    · exact .congr (((ActsOn.migrate s e r.zone).comp (.halt _ e)).comp (.quarantined _ _ _)) (fun l => (if_neg hzone).trans (if_pos htamper))
    · by_cases hhalted : e.state = .halted
      · exact .congr ((ActsOn.migrate s e r.zone).comp (.quarantined _ _ _)) (fun l => (if_neg hzone).trans ((if_neg htamper).trans (if_pos hhalted)))
      · exact .destination_of_placed hzone htamper hhalted

theorem State.node?_withLink (s : State) (l : Link) (x : Serial) : (s.withLink l).node? x = s.node? x := rfl

theorem State.accepted_absent {s : State} {r : Reading} (h : s.node? r.serial = none) : s.accepted r = s := by
  unfold State.accepted
  rw [h]

theorem State.accepted_present {s : State} {r : Reading} {e : NodeEntry} (h : s.node? r.serial = some e) : s.accepted r =
    ((s.updNode r.serial (NodeEntry.record s.abm.cycleNumber r)).countAtu (countAccepted r.units)).destination (e.record s.abm.cycleNumber r) r := by
  unfold State.accepted
  rw [h]

theorem ActsOn.accepted (s : State) (r : Reading) : ActsOn (State.accepted · r) s := by
  cases h : s.node? r.serial with
  | none => exact .congr (.id s) (fun l => State.accepted_absent (s := s.withLink l) h)
  | some e =>
    exact .congr (((ActsOn.updNode s r.serial (NodeEntry.record s.abm.cycleNumber r)).comp (.countAtu _ _)).comp (.destination _ (e.record s.abm.cycleNumber r) r))
      fun l => State.accepted_present (s := s.withLink l) h

theorem State.missed_absent {s : State} {x : Serial} (h : s.node? x = none) : s.missed x = s := by
  unfold State.missed
  rw [h]

/-- The miss act on a present entry (R136). -/
theorem State.missed_present {s : State} {x : Serial} {e m : NodeEntry} (h : s.node? x = some e) (hm : m = e.miss s.abm.config.silentLimit)
    {t u : State} (ht : t = s.updNode x (NodeEntry.miss s.abm.config.silentLimit))
    (hu : u = if e.state = .active ∧ m.state = .silent then t.flag .raiseNodeSilent else t) :
    s.missed x = if m.state = .silent ∧ s.abm.config.ageLimit ≤ m.misses then u.withAtu { u.atu with op := some (.removal x .aging) } else u := by
  subst hm ht hu
  unfold State.missed
  rw [h]

theorem ActsOn.missed (s : State) (x : Serial) : ActsOn (State.missed · x) s := by
  cases h : s.node? x with
  | none => exact .congr (.id s) (fun l => State.missed_absent (s := s.withLink l) h)
  | some e =>
    obtain ⟨m, hm⟩ : ∃ m, m = e.miss s.abm.config.silentLimit := ⟨_, rfl⟩
    have hmiss (l : Link) := State.missed_present (s := s.withLink l) h hm rfl rfl
    have hcounted : ActsOn (fun t => if e.state = .active ∧ m.state = .silent then (t.updNode x (NodeEntry.miss s.abm.config.silentLimit)).flag .raiseNodeSilent
        else t.updNode x (NodeEntry.miss s.abm.config.silentLimit)) s := by
      by_cases hsilent : e.state = .active ∧ m.state = .silent
      · exact .congr ((ActsOn.updNode s x _).comp (.flag _ _)) (fun _ => if_pos hsilent)
      · exact .congr (ActsOn.updNode s x _) (fun _ => if_neg hsilent)
    by_cases hage : m.state = .silent ∧ s.abm.config.ageLimit ≤ m.misses
    · exact .congr (hcounted.comp (.withAtu _ fun a => { a with op := some (.removal x .aging) })) (fun l => (hmiss l).trans (if_pos hage))
    · exact .congr hcounted (fun l => (hmiss l).trans (if_neg hage))

/-- A learning that no sweep waits for. -/
theorem ActsOn.learn (s : State) (h : HereReply) : ActsOn (State.learn · none h) s := by
  by_cases hzone : s.zones[h.zone].state = .unused
  · exact .congr (.countTotal s _) (fun _ => if_pos hzone)
  · by_cases hnode : (s.node? h.serial).isSome = true
    · exact .congr (.updNode s h.serial _) (fun _ => (if_neg hzone).trans (if_pos hnode))
    · by_cases hfull : nodeCapacity ≤ s.nodes.length
      · exact .congr (.countTotal s _) (fun _ => (if_neg hzone).trans ((if_neg hnode).trans (if_pos hfull)))
      · exact .congr (.withAtu s fun a => { a with op := some (.insertion h) }) (fun _ => (if_neg hzone).trans ((if_neg hnode).trans (if_neg hfull)))

theorem ActsOn.setToggle (s : State) (x : Serial) : ActsOn (State.setToggle · none x) s := .updNode s x _

theorem ActsOn.hand (s : State) (a : Option HandedAct) : ActsOn (State.hand · a) s := .withAtu s fun u => { u with handed := a }

/-! ### The first cycle of a started bus (R124, R126) -/

/-- What a beacon instant does to the cycle, the zones and the sweep (R126). -/
theorem State.newCycle_begins (s : State) : ∃ t, ((((s.withAbm s.abm.newCycle).closeArmed .cycleEnd).countBus .addCycle).automaticSweep) = t ∧
    cycleBegins s t ∧ t.link = s.link ∧ t.abm.rotation = s.abm.rotation ∧ t.abm.totals = s.abm.totals := by
  have hcloses := (s.withAbm s.abm.newCycle).closeArmed_closes .cycleEnd
  obtain ⟨z, ch, q, hframe⟩ : ∃ z c q, (s.withAbm s.abm.newCycle).closeArmed .cycleEnd = (((s.withAbm s.abm.newCycle).withZones z).withChannels c).withQueue q :=
    ⟨_, _, _, State.closeArmed_frame _ _⟩
  obtain ⟨sw, n, hsweep, h0, h1, h2, h3⟩ :=
    ((((s.withAbm s.abm.newCycle).withZones z).withChannels ch).withQueue q |>.countBus .addCycle).automaticSweep_counts
  rw [hframe] at hcloses
  rw [hframe, hsweep]
  refine ⟨_, rfl, ⟨hcloses, ?_, ?_, ?_, ?_, sw, n, rfl, h0, h1, h2, h3⟩, ?_, rfl, rfl⟩
  · simp [State.besideBus, State.countBus]
  all_goals simp [State.countBus]

/-- Without a cycle before it a cycle begins with nothing else done. -/
theorem State.beginCycle_of_none {s : State} (h : s.abm.cycle = none) : cycleBegins s s.beginCycle ∧ s.beginCycle.link = s.link ∧
    s.beginCycle.abm.rotation = s.abm.rotation ∧ s.beginCycle.abm.totals = s.abm.totals := by
  have hdefer : s.deferRest = s := by
    unfold State.deferRest
    rw [h]
  have hnote : s.noteOverrun = s := by
    unfold State.noteOverrun
    rw [h]
  obtain ⟨t, ht, hbegins⟩ := s.newCycle_begins
  have hcycle : s.beginCycle = t := by
    unfold State.beginCycle
    rw [hdefer, hnote]
    exact ht
  rw [hcycle]
  exact hbegins

/-- The record formed as the beacon begins: the whole budget remains (R123, R128). -/
theorem cycleBegins.busStatus {s t : State} (h : cycleBegins s t) : t.busStatus = ⟨s.abm.bus, some .beacon, s.abm.cycleNumber + 1,
    some ((s.abm.config.cycleLength * 2400 : Nat) : Int), t.abm.rotation, t.abm.sweep.active, t.abm.sweep.stack.length, t.abm.sweepCount,
    s.abm.lastSweep, s.abm.config⟩ := by
  obtain ⟨-, -, -, -, -, sw, n, habm, -⟩ := h
  have hbus : t.abm.bus = s.abm.bus := by rw [habm]
  have hcycle : t.abm.cycle = some ⟨.beacon, s.abm.config.cycleLength * 2400, 0, 0, none⟩ := by rw [habm]
  have hnumber : t.abm.cycleNumber = s.abm.cycleNumber + 1 := by rw [habm]
  have hlast : t.abm.lastSweep = s.abm.lastSweep := by rw [habm]
  have hconfig : t.abm.config = s.abm.config := by rw [habm]
  unfold State.busStatus
  rw [hbus, hcycle, hnumber, hlast, hconfig]
  simp

/-- The bus made RUNNING, its rotation position and sweep count at 0 (R124). -/
def State.running (s : State) : State := s.withAbm { s.abm with bus := .running, rotation := 0, sweepCount := 0 }

theorem State.startBus_eq (s : State) : s.startBus = s.completeHanded.running.beginCycle := rfl

/-- Nothing is left to do for a bus that is OFF without a cycle. -/
theorem State.stopOrProceed_off {s : State} (hbus : s.abm.bus = .off) (hcycle : s.abm.cycle = none) : s.stopOrProceed = s := by
  have hproceed : s.proceed = s := by
    unfold State.proceed
    rw [hcycle]
    dsimp only
    rw [hcycle]
  unfold State.stopOrProceed
  rw [if_neg (by rw [hbus]; nofun), hproceed, ite_self]

section
variable {s : State} (hop : s.atu.op = none)
include hop

theorem State.completeHanded_of_op_none : s.completeHanded =
    match s.atu.handed with
    | some (.accept r) => (s.hand none).accepted r
    | some (.miss serial) => (s.hand none).missed serial
    | some (.learn r h) => (s.hand none).learn r h
    | some (.setToggle r serial) => (s.hand none).setToggle r serial
    | none => s := by
  refine if_neg fun h => ?_
  rw [State.opInProgress, hop] at h
  cases h

theorem State.actReady_of_op_none (hrun : s.mainRuns = true) : s.actReady = true := by
  rw [State.actReady, hrun, State.opInProgress, hop]
  rfl

end

/-- What BUS ON completes is what the act alone does (R124, R133). -/
theorem State.completeHanded_is {s u : State} (hrun : s.mainRuns = true) (hbus : s.abm.bus = .off) (hcycle : s.abm.cycle = none)
    (hu : (u = s ∧ (s.atu.handed = none ∨ s.atu.op ≠ none)) ∨
      (s.atu.op = none ∧
        (((∃ r, s.atu.handed = some (.accept r)) ∧ exec .acceptanceAct s = .next u) ∨
          ((∃ x, s.atu.handed = some (.miss x)) ∧ exec .missAct s = .next u) ∨
          ((∃ h, s.atu.handed = some (.learn none h)) ∧ exec .learning s = .next u) ∨
          ((∃ x, s.atu.handed = some (.setToggle none x)) ∧ exec .setExpectedToggle s = .next u)))) :
    s.completeHanded = u ∧ ActsOn State.completeHanded s := by
  rcases hu with ⟨rfl, hnothing⟩ | ⟨hop, hact⟩
  · have hstays (l : Link) : (u.withLink l).completeHanded = u.withLink l := by
      by_cases hop : u.atu.op = none
      · rw [State.completeHanded_of_op_none (s := u.withLink l) hop, State.withLink_atu, hnothing.resolve_right (not_not.2 hop)]
      · exact if_pos (Option.isSome_iff_ne_none.2 hop)
    exact ⟨hstays u.link, .congr (.id u) hstays⟩
  · have hready := State.actReady_of_op_none hop hrun
    have hcomplete (l : Link) := State.completeHanded_of_op_none (s := s.withLink l) hop
    simp only [State.withLink_atu] at hcomplete
    rcases hact with ⟨⟨r, hr⟩, he⟩ | ⟨⟨x, hx⟩, he⟩ | ⟨⟨h, hh⟩, he⟩ | ⟨⟨x, hx⟩, he⟩
    · have hexec : exec .acceptanceAct s = .next ((s.hand none).accepted r) := by
        show execAcceptanceAct s = _
        unfold execAcceptanceAct
        rw [hr]
        exact congrArg _ (if_pos hready)
      have hall (l : Link) : (s.withLink l).completeHanded = ((s.withLink l).hand none).accepted r := by rw [hcomplete, hr]
      exact ⟨(hall s.link).trans (Host.Outcome.next.inj (hexec.symm.trans he)), .congr ((ActsOn.hand s none).comp (.accepted _ r)) hall⟩
    · have hexec : exec .missAct s = .next ((s.hand none).missed x) := by
        show execMissAct s = _
        unfold execMissAct
        rw [hx]
        exact congrArg _ (if_pos hready)
      have hall (l : Link) : (s.withLink l).completeHanded = ((s.withLink l).hand none).missed x := by rw [hcomplete, hx]
      exact ⟨(hall s.link).trans (Host.Outcome.next.inj (hexec.symm.trans he)), .congr ((ActsOn.hand s none).comp (.missed _ x)) hall⟩
    · have hacts := (ActsOn.hand s none).comp (.learn _ h)
      have hstill : ((s.hand none).learn none h).stopOrProceed = (s.hand none).learn none h := by
        obtain ⟨n, z, w, t, f, hform⟩ := hacts
        have hs : (s.hand none).learn none h = _ := hform s.link
        rw [hs]
        exact State.stopOrProceed_off hbus hcycle
      have hexec : exec .learning s = .next ((s.hand none).learn none h) := by
        show execLearning s = _
        unfold execLearning
        rw [hh]
        exact congrArg _ ((if_pos hready).trans hstill)
      have hall (l : Link) : (s.withLink l).completeHanded = ((s.withLink l).hand none).learn none h := by rw [hcomplete, hh]
      exact ⟨(hall s.link).trans (Host.Outcome.next.inj (hexec.symm.trans he)), .congr hacts hall⟩
    · have hstill : ((s.hand none).setToggle none x).stopOrProceed = (s.hand none).setToggle none x := State.stopOrProceed_off hbus hcycle
      have hexec : exec .setExpectedToggle s = .next ((s.hand none).setToggle none x) := by
        show execSetExpectedToggle s = _
        unfold execSetExpectedToggle
        rw [hx]
        exact congrArg _ ((if_pos hready).trans hstill)
      have hall (l : Link) : (s.withLink l).completeHanded = ((s.withLink l).hand none).setToggle none x := by rw [hcomplete, hx]
      exact ⟨(hall s.link).trans (Host.Outcome.next.inj (hexec.symm.trans he)), .congr ((ActsOn.hand s none).comp (.setToggle _ x)) hall⟩

/-! ### The stop that takes effect at once (R125) -/

theorem State.closeArmed_withLink (s : State) (cause : CloseCause) (l : Link) : (s.withLink l).closeArmed cause = (s.closeArmed cause).withLink l := by
  have key (zs : List ZoneNo) (t : State) : zs.foldl (State.closeIfArmed cause) (t.withLink l) = (zs.foldl (State.closeIfArmed cause) t).withLink l := by
    induction zs generalizing t with
    | nil => rfl
    | cons z zs ih =>
      have hz : (t.withLink l).closeIfArmed cause z = (t.closeIfArmed cause z).withLink l := by
        unfold State.closeIfArmed
        rw [apply_ite (State.withLink · l)]
        rfl
      rw [List.foldl_cons, List.foldl_cons, ← ih]
      exact congrArg (List.foldl (State.closeIfArmed cause) · zs) hz
  exact key allZones s

/-- LINK after a stop: SWEEP_DONE is set when a sweep was active. -/
def State.stoppedLink (s : State) (l : Link) : Link := if s.abm.sweep.active then { l with flags := l.flags.raiseSweepDone } else l

theorem State.busStop_withLink (s : State) (l : Link) : (s.withLink l).busStop = s.busStop.withLink (s.stoppedLink l) := by
  obtain ⟨z, c, q, hframe⟩ : ∃ z c q, s.closeArmed .busStop = ((s.withZones z).withChannels c).withQueue q := ⟨_, _, _, s.closeArmed_frame _⟩
  unfold State.busStop State.stoppedLink
  rw [State.closeArmed_withLink, hframe]
  by_cases h : s.abm.sweep.active = true
  · simp only [State.withQueue_abm, State.withChannels_abm, State.withZones_abm, State.withLink_abm, h, if_true]
    rfl
  · simp only [State.withQueue_abm, State.withChannels_abm, State.withZones_abm, State.withLink_abm, h]
    rfl

theorem State.busStop_link (s : State) : s.busStop.link = s.stoppedLink s.link := by
  have h := s.busStop_withLink s.link
  exact (congrArg State.link (show s.busStop = s.busStop.withLink (s.stoppedLink s.link) from h)).trans rfl

/-- The bus asked to stop. -/
def State.stopping (s : State) : State := s.withAbm { s.abm with bus := .stopping }

theorem State.requestStop_waits {s : State} (h : s.stopping.stopWaits = true) : s.requestStop = s.stopping := if_pos h

theorem State.requestStop_now {s : State} (h : ¬s.stopping.stopWaits = true) : s.requestStop = s.stopping.busStop := if_neg h

theorem State.stopWaits_iff (s : State) : s.stopWaits = true ↔ s.abm.activity ≠ .none ∨ ∃ r h, s.atu.handed = some (.learn (some r) h) := by
  rw [State.stopWaits, Bool.or_eq_true, bne_iff_ne]
  refine or_congr_right ?_
  split
  · next r h hh => exact iff_of_true rfl ⟨r, h, hh⟩
  · next hno => exact iff_of_false nofun fun ⟨r, h, hh⟩ => hno r h hh

/-- A stop that waits for nothing, as it is asked for: only the sweep's mark on an act handed over goes. -/
theorem State.stopping_stops {s v : State}
    (hv : (v = s ∧ (∀ r h, s.atu.handed ≠ some (.learn (some r) h)) ∧ (∀ r x, s.atu.handed ≠ some (.setToggle (some r) x))) ∨
      (∃ r x, s.atu.handed = some (.setToggle (some r) x) ∧ v = s.withAtu { s.atu with handed := some (.setToggle none x) })) :
    busStops v s.stopping.busStop := by
  rcases hv with ⟨rfl, hlearn, htoggle⟩ | ⟨r, x, hh, rfl⟩
  · have hdet : ∀ a, v.stopping.atu.handed = some a → a.range = none := fun a ha => by
      cases a with
      | accept r => rfl
      | miss x => rfl
      | learn r h =>
        cases r with
        | none => rfl
        | some r => exact absurd ha (hlearn r h)
      | setToggle r x =>
        cases r with
        | none => rfl
        | some r => exact absurd ha (htoggle r x)
    exact State.busStop_stops_of_detached (s := v.stopping) hdet
  · have hstops := s.stopping.busStop_stops
    have hdetached : s.stopping.hand (s.stopping.atu.handed.map HandedAct.detach) =
        (s.withAtu { s.atu with handed := some (.setToggle none x) }).stopping := by
      show s.stopping.hand (s.atu.handed.map HandedAct.detach) = _
      rw [hh]
      rfl
    rw [hdetached] at hstops
    exact hstops

/-- The record of a bus that has stopped, whatever time has passed. -/
theorem busStops.busRecord {s t : State} (h : busStops s t) (n : Nat) : t.abm.cycle = none ∧ t.busRecord n =
    ⟨.off, none, s.abm.cycleNumber, none, s.abm.rotation, false, t.abm.sweep.stack.length, s.abm.sweepCount, t.abm.lastSweep, s.abm.config⟩ := by
  obtain ⟨-, -, -, -, hidle, hactive⟩ := h
  unfold State.busRecord
  cases hsweep : s.abm.sweep.active with
  | false =>
    obtain ⟨habm, -⟩ := hidle hsweep
    rw [habm]
    exact ⟨rfl, by simp [hsweep]⟩
  | true =>
    obtain ⟨habm, -⟩ := hactive hsweep
    rw [habm]
    exact ⟨rfl, rfl⟩

theorem State.counting_of_none {s : State} {n : Nat} (h : s.abm.cycle = none) : s.counting n = s := by
  unfold State.counting
  rw [h, Option.map_none, ← h]
  rfl

/-! ### The four requests -/

theorem busConfigOf_eq_none {cl g : Word16} {rl sl al si : Byte}
    (h : cl.toNat < 10 ∨ 3600 < cl.toNat ∨ 3 < rl.toNat ∨ sl = 0#8 ∨ sl = 255#8 ∨ al.toNat ≤ sl.toNat) : busConfigOf cl g rl sl al si = none := by
  refine if_neg fun ⟨h1, h2, h3, h4, h5, h6⟩ => ?_
  rcases h with h | h | h | rfl | rfl | h
  · omega
  · omega
  · omega
  · exact absurd h4 (by decide)
  · exact absurd h5 (by decide)
  · omega

/-- A taken request answered with the bus status record as it then stands. -/
theorem State.next_take_of_acceptBus {s t : State} {i : Instr} {type : Byte} {owner : State → Answer} (h : s.canTake i = true)
    (ho : owner (s.withLink s.link.arrived) = acceptBus (t.withLink t.link.arrived)) : ∃ n, t.countsOn n ∧
    Host.Outcome.next (s.take i type owner) =
      (.next (((t.withLink (t.link.answered type .ok (.busStatus (t.busRecord n)))).counting n).withFreeUses (t.freeUses + 1)) :
        Host.Outcome State Fault Refusal) := by
  obtain ⟨n, hn, hpass, hrecord⟩ := (t.withLink t.link.arrived).letTimePass_counts
  refine ⟨n, hn, State.next_take_of_reply (c := .busStatus (t.busRecord n))
    (t := ((t.withLink t.link.arrived).counting n).withFreeUses (t.freeUses + 1)) h (ho.trans ?_)⟩
  unfold acceptBus
  rw [hrecord, hpass]
  rfl

theorem State.stoppedLink_arrived (s : State) (l : Link) : s.stoppedLink l.arrived = (s.stoppedLink l).arrived := by
  unfold State.stoppedLink
  rw [apply_ite Link.arrived]
  rfl

theorem busOffOwner_running {s : State} (h : s.abm.bus = .running) : busOffOwner s = acceptBus s.requestStop := by rw [busOffOwner, h]

theorem busOffOwner_other {s : State} (h : s.abm.bus = .off ∨ s.abm.bus = .stopping) : busOffOwner s = acceptBus s := by
  unfold busOffOwner
  rcases h with h | h
  all_goals rw [h]

/-- Settles O34. -/
theorem busRequests : Obligations.BusRequests := by
  unfold Obligations.BusRequests
  refine ⟨fun cl g rl sl al si s h => ?configure, fun s h => ?on, fun s h => ?off, fun s h => ?sweep⟩
  case configure =>
    refine ⟨fun hbad => ?_, fun h1 h2 h3 h4 h5 h6 => ⟨fun hbus => ?_, fun hbus hcycle cfg hcfg => ?_⟩⟩
    · exact State.next_take_of_refuse h fun l => by rw [busConfigOf_eq_none hbad]; rfl
    all_goals have hsome : busConfigOf cl g rl sl al si = some ⟨cl.toNat, g.toNat, rl.toNat, sl.toNat, al.toNat, si.toNat⟩ := if_pos ⟨h1, h2, h3, h4, h5, h6⟩
    · exact State.next_take_of_refuse h fun l => by
        rw [hsome]
        exact if_pos hbus
    · subst hcfg
      have hrecord (l : Link) : ((s.withLink l).withAbm { s.abm with config := ⟨cl.toNat, g.toNat, rl.toNat, sl.toNat, al.toNat, si.toNat⟩ }).busStatus =
          ⟨.off, none, s.abm.cycleNumber, none, s.abm.rotation, s.abm.sweep.active, s.abm.sweep.stack.length, s.abm.sweepCount, s.abm.lastSweep,
            ⟨cl.toNat, g.toNat, rl.toNat, sl.toNat, al.toNat, si.toNat⟩⟩ := by
        unfold State.busStatus
        rw [State.withAbm_abm, hbus, hcycle]
        rfl
      refine State.next_take_of_done (fun t => t.withAbm { t.abm with config := ⟨cl.toNat, g.toNat, rl.toNat, sl.toNat, al.toNat, si.toNat⟩ }) h
        (fun l => ?_) (fun _ _ => rfl) fun _ => rfl
      rw [hsome, ← hrecord l]
      exact if_neg (not_not.2 hbus)
  case on =>
    refine ⟨fun hbus => ?_, fun hbus => ?_, fun u hbus hcycle hact hu => ?_⟩
    · exact State.next_take_of_refuse h fun l => by rw [busOnOwner, State.withLink_abm, hbus]
    · exact State.next_take_of_refuse h fun l => by rw [busOnOwner, State.withLink_abm, hbus]
    · have hrun : s.mainRuns = true := beq_iff_eq.2 (State.canTake_runs h)
      obtain ⟨hdone, n, z, w, k, f, hform⟩ := State.completeHanded_is hrun hbus hcycle hu
      have hus : u = ((((s.withNodes n).withZones z).withAtu w).withAbm { s.abm with totals := k }).withLink { s.link with flags := f s.link.flags } :=
        hdone.symm.trans (hform s.link)
      clear hu hdone
      subst hus
      obtain ⟨v, hv⟩ : ∃ v, v = (s.withLink s.link.arrived).completeHanded := ⟨_, rfl⟩
      rw [hform] at hv
      have hbegins := State.beginCycle_of_none (s := v.running) (by rw [hv]; exact hcycle)
      obtain ⟨t, ht⟩ : ∃ t, t = (s.withLink s.link.arrived).startBus := ⟨_, rfl⟩
      rw [State.startBus_eq, hform, ← hv] at ht
      rw [← ht, hv] at hbegins
      obtain ⟨hbegins, hlink, hrotation, htotals⟩ := hbegins
      have howner : busOnOwner (s.withLink s.link.arrived) = accept (.busStatus t.busStatus) t := by
        rw [busOnOwner, State.withLink_abm, hbus, ht, hv, ← hform]
        rfl
      rw [hbegins.busStatus, hrotation] at howner
      refine ⟨_, State.next_take_of_reply h howner, ?_, hrotation, htotals, hbegins⟩
      have hsent (c : Content) : (t.reply 0x41 .ok c).link = { t.link with receiver := .send ⟨0x41#8 ||| 0x80#8, .ok, c⟩ } := rfl
      rw [hsent, hlink]
      rfl
  case off =>
    refine ⟨fun hbus => ?_, fun v hbus hwait hv => ?_, fun v hbus hact hv => ?_⟩
    · exact State.next_take_of_acceptBus (t := s) h (busOffOwner_other hbus)
    · subst hv
      have hwaits (l : Link) : ((s.withLink l).requestStop) = s.stopping.withLink l :=
        State.requestStop_waits (s := s.withLink l) ((State.stopWaits_iff _).2 hwait)
      exact State.next_take_of_acceptBus (t := s.stopping) h ((busOffOwner_running (s := s.withLink s.link.arrived) hbus).trans
        (congrArg acceptBus (hwaits _)))
    · have hwaits (l : Link) : ¬(s.withLink l).stopping.stopWaits = true := by
        rw [State.stopWaits_iff]
        rintro (hne | ⟨r, k, hk⟩)
        · exact hne hact
        · rcases hv with ⟨-, hlearn, -⟩ | ⟨r', x, hx, -⟩
          · exact hlearn r k hk
          · exact absurd (hx.symm.trans hk) nofun
      have hstops := State.stopping_stops hv
      obtain ⟨u, hu⟩ : ∃ u, u = s.stopping.busStop := ⟨_, rfl⟩
      have howner : busOffOwner (s.withLink s.link.arrived) = acceptBus (u.withLink u.link.arrived) := by
        rw [busOffOwner_running (s := s.withLink s.link.arrived) hbus, State.requestStop_now (hwaits _), hu, State.busStop_link,
          ← State.stoppedLink_arrived, ← State.busStop_withLink]
        rfl
      obtain ⟨n, -, hdone⟩ := State.next_take_of_acceptBus (i := .busOff) (type := 0x42) h howner
      rw [← hu] at hstops
      have hfree : u.freeUses = s.freeUses := by
        obtain ⟨-, -, hfree, -⟩ := s.stopping.busStop_busOnly
        rw [hu, hfree]
        rfl
      have hv' : v.abm = s.abm := by
        rcases hv with ⟨rfl, -⟩ | ⟨-, -, -, rfl⟩
        all_goals rfl
      obtain ⟨hcycle, hrecord⟩ := hstops.busRecord n
      rw [hv'] at hrecord
      rw [hrecord, hfree, State.counting_of_none (by exact hcycle)] at hdone
      exact ⟨_, u, _, hdone, hstops, rfl, rfl⟩
  case sweep =>
    refine ⟨fun hbus => ?_, fun hbus hactive => ?_, fun v hbus hactive hv => ?_⟩
    · exact State.next_take_of_refuse (owner := startSweepOwner) h fun l => if_pos hbus
    · exact State.next_take_of_refuse (owner := startSweepOwner) h fun l => (if_neg (not_not.2 hbus)).trans (if_pos hactive)
    · subst hv
      exact State.next_take_of_acceptBus (t := s.beginSweep) h ((if_neg (not_not.2 hbus)).trans (if_neg (by rw [State.withLink_abm, hactive]; nofun)))

end Sys2Proof.Machine

/-! SUPPORT and PROOFS. The events of the allocator bus: the beacon, the poll, receptions and the ends of attempts (R119 to R144). -/

namespace Sys2Proof.Machine

/-! ### The beacon instant (R126, R129) -/

/-- Settles O35. -/
theorem beaconInstant : Obligations.BeaconInstant := by
  unfold Obligations.BeaconInstant
  intro s c hrun hbus hact hhand hcycle hdue
  have hcondition : (c.phase == .wait || (c.spent && !s.opInProgress)) = true := by
    rcases hdue with hwait | ⟨hspent, hop⟩
    · rw [hwait]
      rfl
    · have hcut : c.spent = true := decide_eq_true hspent
      have hfree : s.opInProgress = false := by
        rw [State.opInProgress, hop]
        rfl
      rw [hcut, hfree]
      exact Bool.or_true _
  have hbeacon : s.beaconDue = true := by
    unfold State.beaconDue
    rw [hrun, hbus, hact, hhand, hcycle]
    exact hcondition
  exact ⟨s.beginCycle, congrArg Host.Outcome.next (if_pos hbeacon), State.beginCycle_ends hcycle⟩

/-! ### The poll (R127, R130, R131) -/

/-- The stop does not look at the cycle it ends. -/
theorem busStops.of_cycle {s t : State} {c d : Option Cycle} (h : busStops (s.withAbm { s.abm with activity := .none, cycle := c }) t) :
    busStops (s.withAbm { s.abm with activity := .none, cycle := d }) t := h

/-- The state after the BEACON frame, before anything follows. -/
theorem State.elapse_idle {s : State} {c : Cycle} (n : Nat) (h : s.abm.cycle = some c) : (s.elapse n).withActivity .none =
    s.withAbm { s.abm with activity := .none, cycle := some { c with elapsed := c.elapsed + n, passed := 0 } } := by
  rw [State.elapse_frame, State.elapse_cycle n h]
  rfl

/-- No poll follows a BEACON when no entry is present and nothing is left to the ATU (log 29). -/
def State.pollEmpty (s : State) : Bool := !s.opInProgress && s.atu.handed.isNone && s.presentNodes.isEmpty

theorem State.pollEmpty_iff (s : State) : s.pollEmpty = true ↔ s.atu.op = none ∧ s.atu.handed = none ∧ s.nodes = [] := by
  have hpresent (hop : s.atu.op = none) := s.presentNodes_of_none hop
  unfold State.pollEmpty State.opInProgress
  rw [Bool.and_eq_true, Bool.and_eq_true, Bool.not_eq_true', Option.isSome_eq_false_iff, Option.isNone_iff_eq_none, Option.isNone_iff_eq_none,
    List.isEmpty_iff, and_assoc]
  exact and_congr_right fun hop => and_congr_right fun _ => by rw [hpresent hop]

section
variable {s : State} {c d : Cycle} (hcycle : s.abm.cycle = some c) (hd : d = { c with elapsed := c.elapsed + 77, passed := 0, phase := .poll, cursor := none })
include hcycle hd

theorem State.beaconSent_running (hbus : s.abm.bus = .running) : s.beaconSent =
    if (s.withAbm { s.abm with activity := .none, cycle := some d }).pollEmpty then (s.withAbm { s.abm with activity := .none, cycle := some d }).endPoll
    else s.withAbm { s.abm with activity := .none, cycle := some d } := by
  have hpoll : ((s.elapse 77).withActivity .none).updCycle (fun c => { c with phase := .poll, cursor := none }) =
      s.withAbm { s.abm with activity := .none, cycle := some d } := by
    rw [State.elapse_idle 77 hcycle, hd]
    rfl
  have hgoes : ¬((s.elapse 77).withActivity .none).abm.bus = .stopping := by
    rw [State.elapse_idle 77 hcycle]
    show ¬s.abm.bus = .stopping
    rw [hbus]
    nofun
  unfold State.beaconSent
  rw [if_neg hgoes, hpoll]
  rfl

omit hd in
theorem State.beaconSent_stopping (hbus : s.abm.bus = .stopping) (hdet : ∀ a, s.atu.handed = some a → a.range = none) :
    busStops (s.withAbm { s.abm with activity := .none, cycle := some d }) s.beaconSent := by
  have hstops := State.busStop_stops_of_detached
    (s := s.withAbm { s.abm with activity := .none, cycle := some { c with elapsed := c.elapsed + 77, passed := 0 } }) hdet
  have hsent : s.beaconSent = (s.withAbm { s.abm with activity := .none, cycle := some { c with elapsed := c.elapsed + 77, passed := 0 } }).busStop := by
    unfold State.beaconSent
    rw [State.elapse_idle 77 hcycle]
    exact if_pos hbus
  rw [hsent]
  exact hstops.of_cycle

end

section
variable {s : State} {c : Cycle}

theorem State.pollReady_iff (s : State) : s.pollReady = true ↔
    s.mainRuns = true ∧ s.abm.bus = .running ∧ s.abm.activity = .none ∧ s.atu.handed = none ∧ s.atu.op = none := by
  unfold State.pollReady State.opInProgress
  rw [Bool.and_eq_true, Bool.and_eq_true, Bool.and_eq_true, Bool.and_eq_true, beq_iff_eq, beq_iff_eq, Option.isNone_iff_eq_none,
    Bool.not_eq_true', Option.isSome_eq_false_iff, Option.isNone_iff_eq_none, and_assoc, and_assoc, and_assoc]

theorem exec_readTransactionStart (hcycle : s.abm.cycle = some c) (hphase : c.phase = .poll) :
    exec .readTransactionStart s = .next (if s.pollReady then s.pollNext c else s) := by
  show execReadTransactionStart s = _
  unfold execReadTransactionStart
  rw [hcycle]
  have hpoll : (c.phase == .poll) = true := beq_iff_eq.2 hphase
  dsimp only
  rw [hpoll, Bool.and_true]

theorem State.pollNext_none (h : s.nextEntry c = none) : s.pollNext c = s.endPoll := by
  unfold State.pollNext
  rw [h]

theorem State.pollNext_some {e : NodeEntry} (h : s.nextEntry c = some e) : s.pollNext c =
    if s.canStart then (s.countBus .addTransaction).startAttempt (.read e.serial e.toggle) 1 else (s.withRotation e.serial).toPhase .wait := by
  unfold State.pollNext
  rw [h]

theorem State.startAttempt_counted (s : State) (t : Transaction) : (s.countBus .addTransaction).startAttempt t 1 =
    s.withAbm { s.abm with activity := .attempt t 1 none, counters := s.abm.counters.oneMore } := by
  unfold State.countBus
  rw [BusCounters.addTransaction_eq]
  rfl

theorem State.deferred_waiting (hcycle : s.abm.cycle = some c) (x : Serial) : (s.withRotation x).toPhase .wait =
    s.withAbm { s.abm with rotation := x, cycle := some { c with phase := .wait } } := by
  unfold State.toPhase State.updCycle State.withCycle
  show (s.withRotation x).withAbm { (s.withRotation x).abm with cycle := s.abm.cycle.map _ } = _
  rw [hcycle]
  rfl

end

/-- Settles O36. -/
theorem pollPhase : Obligations.PollPhase := by
  unfold Obligations.PollPhase
  refine ⟨fun s u c d hrun hact hcycle hd hu => ?beacon, fun s c hrun hbus hact hcycle hphase => ?read⟩
  case beacon =>
    have hsent : exec .beaconSent s = .next s.beaconSent := congrArg _ (if_pos (by rw [hrun, hact]; rfl))
    rw [hsent]
    subst hu
    refine ⟨fun hbus hleft => ?_, fun hbus hnodes hop hhand => ?_, fun hbus hdet => ⟨_, rfl, State.beaconSent_stopping hcycle hbus hdet⟩⟩
    · rw [State.beaconSent_running hcycle hd hbus, if_neg]
      rw [State.pollEmpty_iff]
      rintro ⟨hop, hhand, hnodes⟩
      rcases hleft with h | h | h
      exacts [h hnodes, h hop, h hhand]
    · rw [State.beaconSent_running hcycle hd hbus, if_pos ((State.pollEmpty_iff (s.withAbm { s.abm with activity := .none, cycle := some d })).2
        ⟨hop, hhand, hnodes⟩)]
      exact ⟨_, rfl, State.endPoll_pollEnds (s := s.withAbm { s.abm with activity := .none, cycle := some d }) hbus rfl rfl⟩
  case read =>
    rw [exec_readTransactionStart hcycle hphase]
    refine ⟨fun hleft => ?_, fun hop hhand => ?_⟩
    · rw [if_neg]
      rw [State.pollReady_iff]
      rintro ⟨-, -, -, hhand, hop⟩
      rcases hleft with h | h
      exacts [h hop, h hhand]
    · rw [if_pos ((State.pollReady_iff s).2 ⟨hrun, hbus, hact, hhand, hop⟩)]
      refine ⟨fun e he hmay => ?_, fun e he hmay => ?_, fun hnone => ⟨_, rfl, ?_⟩⟩
      · rw [State.pollNext_some (State.nextEntry_of_isNextEntry he), if_pos ((State.canStart_iff hbus hcycle).2 hmay), State.startAttempt_counted]
      · rw [State.pollNext_some (State.nextEntry_of_isNextEntry he), if_neg (mt (State.canStart_iff hbus hcycle).1 hmay),
          State.deferred_waiting hcycle]
      · rw [State.pollNext_none ((s.nextEntry_none_iff c).2 fun e he => hnone e he.1)]
        exact State.endPoll_pollEnds hbus hact hcycle

/-! ### Receptions (R119, R120) -/

theorem exec_reading (d : Fin 23) (f : List BusByte) (s : State) :
    exec (.reading d f) s = .next (s.receive Transaction.isRead (orDamaged (readingOf f) (.reading d.val))) := rfl

theorem exec_here (d : Fin 23) (f : List BusByte) (s : State) :
    exec (.here d f) s = .next (s.receive Transaction.isRollCall (orDamaged (hereOf f) (.here d.val))) := rfl

theorem exec_enrolled (d : Fin 23) (f : List BusByte) (s : State) :
    exec (.enrolled d f) s = .next (s.receive Transaction.isEnroll (orDamaged (enrolledOf f) (.enrolled d.val))) := rfl

/-- A reception that is open ends in time, or too late. -/
theorem State.receive_ends {s : State} {t : Transaction} {n : Nat} {c : Cycle} {kind : Transaction → Bool} (y : AttemptReply)
    (hrun : s.mainRuns = true) (hact : s.abm.activity = .attempt t n none) (hcycle : s.abm.cycle = some c) (hkind : kind t = true) :
    (c.passed ≤ attemptLength t y - 11 → (Host.Outcome.next (s.receive kind y) : Host.Outcome State Fault Refusal) = .next (s.withAbm { s.abm with
      activity := .attempt t n (some y), cycle := some { c with passed := attemptLength t y - 11 } })) ∧
    (attemptLength t y - 11 < c.passed → (Host.Outcome.next (s.receive kind y) : Host.Outcome State Fault Refusal) = .next s) :=
  ⟨fun h => congrArg _ (State.receive_open hrun hact hcycle hkind h), fun h => congrArg _ (State.receive_late hact hcycle h)⟩

/-- Settles O37. -/
theorem receptions : Obligations.Receptions := by
  unfold Obligations.Receptions
  refine ⟨fun s t n c hrun hact hcycle => ⟨fun d f x e y ht hy => ?_, fun d f r y ht hy => ?_, fun d f r x y ht hy => ?_, fun i y hi => ?_⟩,
    fun s i hclosed hi => ?_⟩
  · have hreply : orDamaged (readingOf f) (.reading d.val) = y := by
      rw [hy]
      cases readingOf f <;> rfl
    rw [exec_reading, hreply]
    exact State.receive_ends y hrun hact hcycle (by rw [ht]; rfl)
  · have hreply : orDamaged (hereOf f) (.here d.val) = y := by
      rw [hy]
      cases hereOf f <;> rfl
    rw [exec_here, hreply]
    exact State.receive_ends y hrun hact hcycle (by rw [ht]; rfl)
  · have hreply : orDamaged (enrolledOf f) (.enrolled d.val) = y := by
      rw [hy]
      cases enrolledOf f <;> rfl
    rw [exec_enrolled, hreply]
    exact State.receive_ends y hrun hact hcycle (by rw [ht]; rfl)
  · rcases hi with ⟨rfl, rfl⟩ | ⟨rfl, rfl⟩
    · exact State.receive_ends (kind := fun _ => true) .timedOut hrun hact hcycle rfl
    · exact State.receive_ends (kind := fun _ => true) .damaged hrun hact hcycle rfl
  · rcases hi with ⟨d, f, rfl | rfl | rfl⟩ | rfl | rfl
    all_goals exact congrArg _ (State.receive_closed hclosed)

/-! ### The end of an attempt (R120, R132 to R137) -/

section
variable {s : State} {c : Cycle} {t : Transaction} {n : Nat} {reply : AttemptReply}

theorem exec_attemptEnd (hrun : s.mainRuns = true) (hact : s.abm.activity = .attempt t n (some reply)) :
    exec .attemptEnd s = .next (s.attemptEnd t n reply) := by
  show execAttemptEnd s = _
  unfold execAttemptEnd
  rw [hact]
  exact congrArg _ (if_pos hrun)

/-- The attempt's time counted, and nothing in hand. -/
theorem State.attemptEnd_eq (hcycle : s.abm.cycle = some c) {d : Cycle} (hd : d = { c with elapsed := c.elapsed + attemptLength t reply, passed := 0 }) :
    s.attemptEnd t n reply = ((s.withAbm { s.abm with activity := .none, cycle := some d }).judge t n reply).afterAttempt := by
  unfold State.attemptEnd
  rw [State.elapse_idle _ hcycle, hd]

theorem State.afterAttempt_stops_detached (hbus : s.abm.bus = .stopping) (h : ∀ a, s.atu.handed = some a → a.range = none) :
    busStops s s.afterAttempt := by
  unfold State.afterAttempt
  rw [if_pos hbus]
  exact State.busStop_stops_of_detached h

end

/-- The outcome of a failed READ attempt that is counted is not taken up (R132). -/
theorem failedRead.outcome {x : Serial} {e : Bool} {reply : AttemptReply} {before after : BusCounters} (h : failedRead x reply before after) :
    readCount x e reply before = after ∧ ∀ (s : State) (n : Nat), s.readOutcome x e n reply = s.readFailed x e n := by
  rcases h with ⟨rfl, rfl⟩ | ⟨rfl, rfl⟩ | ⟨d, r, rfl, hserial, rfl⟩ | ⟨d, r, rfl, hserial, hbusy, rfl⟩
  · refine ⟨?_, fun s n => rfl⟩
    rw [← inc32_eq_min]
    rfl
  · refine ⟨?_, fun s n => rfl⟩
    rw [← inc32_eq_min]
    rfl
  · refine ⟨?_, fun s n => if_pos (.inl hserial)⟩
    unfold readCount
    dsimp only
    rw [if_pos hserial, ← inc32_eq_min]
    rfl
  · refine ⟨?_, fun s n => if_pos (.inr hbusy)⟩
    unfold readCount
    dsimp only
    rw [if_neg (not_not.2 hserial), if_pos hbusy]
    rfl

section
variable {x : Serial} {e : Bool} {d : Nat} {r : Reading} (hserial : r.serial = x) (hbusy : r.status ≠ .busy)
include hserial hbusy

theorem readCount_of_reading : readCount x e (.reading d r) = if r.toggle ≠ e then BusCounters.addDuplicate else id := by
  unfold readCount
  dsimp only
  rw [if_neg (not_not.2 hserial), if_neg hbusy]

theorem State.readOutcome_of_reading (s : State) (n : Nat) : s.readOutcome x e n (.reading d r) =
    if r.toggle ≠ e then s.readDone x else (s.readDone x).hand (some (.accept r)) :=
  if_neg (not_or.2 ⟨not_not.2 hserial, hbusy⟩)

theorem readCount_of_accepted (htoggle : r.toggle = e) (k : BusCounters) : readCount x e (.reading d r) k = k := by
  rw [readCount_of_reading hserial hbusy, if_neg (not_not.2 htoggle)]
  rfl

theorem readCount_of_duplicate (htoggle : r.toggle ≠ e) (k : BusCounters) :
    readCount x e (.reading d r) k = { k with duplicates := min (k.duplicates + 1) (2 ^ 32 - 1) } := by
  rw [readCount_of_reading hserial hbusy, if_pos htoggle, ← inc32_eq_min]
  rfl

end

theorem State.node?_isNone_iff (s : State) (x : Serial) : (s.node? x).isNone = true ↔ ∀ y, isPresent s y → y.serial ≠ x := by
  unfold State.node?
  rw [Option.isNone_iff_eq_none, List.find?_eq_none]
  simp only [isPresent_iff, beq_iff_eq]

section
variable {s v u : State} {c d : Cycle} {x : Serial} {e : Bool} {n : Nat} {reply : AttemptReply} {k : BusCounters}
  (hcycle : s.abm.cycle = some c) (hd : d = { c with elapsed := c.elapsed + attemptLength (.read x e) reply, passed := 0 })
  (hv : v = s.withAbm { s.abm with activity := .none, cycle := some d, counters := k }) (hk : readCount x e reply s.abm.counters = k)
include hcycle hd hv hk

theorem State.attemptEnd_read : s.attemptEnd (.read x e) n reply =
    (if (v.node? x).isNone then v.readDone x else v.readOutcome x e n reply).afterAttempt := by
  rw [State.attemptEnd_eq hcycle hd, hv, ← hk]
  rfl

theorem State.attemptEnd_read_present (hx : ∃ y, isPresent s y ∧ y.serial = x) :
    s.attemptEnd (.read x e) n reply = (v.readOutcome x e n reply).afterAttempt := by
  rw [State.attemptEnd_read hcycle hd hv hk, if_neg]
  rw [hv, State.node?_isNone_iff]
  obtain ⟨y, hy, hserial⟩ := hx
  exact fun h => h y hy hserial

theorem State.attemptEnd_read_absent (hx : ∀ y, isPresent s y → y.serial ≠ x) :
    s.attemptEnd (.read x e) n reply = (v.readDone x).afterAttempt := by
  rw [State.attemptEnd_read hcycle hd hv hk, if_pos]
  rw [hv]
  exact (State.node?_isNone_iff _ _).2 hx

end

theorem attemptLength_reading (x : Serial) (e : Bool) (d : Nat) (r : Reading) : attemptLength (.read x e) (.reading d r) = 286 + d := by
  show 110 + d + 165 + 11 = 286 + d
  omega

/-- A failed READ attempt with retries left (R135). -/
theorem State.readFailed_retry {s : State} {x : Serial} {e : Bool} {n : Nat} (hn : n ≤ s.abm.config.retryLimit) : s.readFailed x e n =
    if s.canStart then s.startAttempt (.read x e) (n + 1) else if s.abm.bus = .stopping then s else (s.withRotation x).toPhase .wait := if_pos hn

theorem State.readFailed_missed {s : State} {x : Serial} {e : Bool} {n : Nat} (hn : s.abm.config.retryLimit < n) :
    s.readFailed x e n = (s.readDone x).hand (some (.miss x)) := if_neg (Nat.not_le.2 hn)

theorem State.canStart_not_stopping {s : State} (h : s.abm.bus = .stopping) : ¬s.canStart = true := fun hs => by
  have hrunning := State.canStart_running hs
  rw [h] at hrunning
  cases hrunning

/-- Settles O39. -/
theorem readAttemptEnd : Obligations.ReadAttemptEnd := by
  unfold Obligations.ReadAttemptEnd
  refine ⟨fun x e d r => ⟨rfl, rfl, attemptLength_reading x e d r⟩, fun s v u c d x e n reply k hrun hbus hact hcycle hhand hd hv hu => ?_⟩
  have hdone : u = v.readDone x := by
    rw [hu, hv]
    rfl
  have hvhand : v.atu.handed = none := (congrArg (·.atu.handed) hv).trans hhand
  have hvact : v.abm.activity = .none := congrArg (·.abm.activity) hv
  have hvbus : v.abm.bus = s.abm.bus := congrArg (·.abm.bus) hv
  have huhand : u.atu.handed = none := (congrArg (·.atu.handed) hu).trans hhand
  have huact : u.abm.activity = .none := congrArg (·.abm.activity) hu
  have hubus : u.abm.bus = s.abm.bus := congrArg (·.abm.bus) hu
  have hhanded (a : HandedAct) : u.hand (some a) = u.withAtu { s.atu with handed := some a } := by
    rw [hu]
    rfl
  have hvlimit : v.abm.config = s.abm.config := congrArg (·.abm.config) hv
  -- an act handed over at the end of the last attempt
  have hact_running (a : HandedAct) (hb : s.abm.bus = .running) : (u.hand (some a)).afterAttempt = u.withAtu { s.atu with handed := some a } := by
    rw [← hhanded]
    exact State.afterAttempt_same (s := u.hand (some a)) (hubus.trans hb) (.inl nofun)
  have hact_stopping (a : HandedAct) (ha : a.range = none) (hb : s.abm.bus = .stopping) :
      busStops (u.withAtu { s.atu with handed := some a }) (u.hand (some a)).afterAttempt := by
    rw [← hhanded]
    exact State.afterAttempt_stops_detached (s := u.hand (some a)) (hubus.trans hb) fun b hb => by
      obtain rfl : a = b := Option.some.inj hb
      exact ha
  rw [exec_attemptEnd hrun hact]
  refine ⟨fun hx => ⟨fun b r hr hserial hbusy htoggle hk => ?_, fun b r hr hserial hbusy htoggle hk => ⟨_, rfl, ?_⟩, fun hfail hn => ?retry,
    fun hfail hn => ?missed⟩, fun hx hcount => ⟨_, rfl, ?absent⟩⟩
  · subst hr
    have hcount : readCount x e (.reading b r) s.abm.counters = k := (readCount_of_accepted hserial hbusy htoggle _).trans hk.symm
    rw [State.attemptEnd_read_present hcycle hd hv hcount hx, State.readOutcome_of_reading hserial hbusy, if_neg (not_not.2 htoggle), ← hdone]
    exact ⟨fun hb => congrArg _ (hact_running _ hb), fun hb => ⟨_, rfl, hact_stopping _ rfl hb⟩⟩
  · subst hr
    have hcount : readCount x e (.reading b r) s.abm.counters = k := (readCount_of_duplicate hserial hbusy htoggle _).trans hk.symm
    rw [State.attemptEnd_read_present hcycle hd hv hcount hx, State.readOutcome_of_reading hserial hbusy, if_pos htoggle, ← hdone]
    exact State.afterAttempt_worksOn huhand huact
  case retry =>
    obtain ⟨hcount, hout⟩ := hfail.outcome (e := e)
    rw [← hvlimit] at hn
    rw [State.attemptEnd_read_present hcycle hd hv hcount hx, hout, State.readFailed_retry hn]
    have hvcycle : v.abm.cycle = some d := congrArg (·.abm.cycle) hv
    have hmayv : mayStart v d ↔ mayStart s d := by
      unfold mayStart
      rw [hvlimit]
    refine ⟨fun hb hmay => ?_, fun hb hmay => ⟨_, rfl, ?_⟩, fun hb => ⟨_, rfl, ?_⟩⟩
    · rw [if_pos ((State.canStart_iff (hvbus.trans hb) hvcycle).2 (hmayv.2 hmay))]
      exact congrArg _ (State.afterAttempt_same (s := v.startAttempt (.read x e) (n + 1)) (hvbus.trans hb) (.inr nofun))
    · have hgoes : ¬v.abm.bus = .stopping := by
        rw [hvbus, hb]
        nofun
      rw [if_neg (mt (State.canStart_iff (hvbus.trans hb) hvcycle).1 (mt hmayv.1 hmay)), if_neg hgoes, State.deferred_waiting hvcycle]
      exact State.afterAttempt_worksOn (s := v.withAbm { v.abm with rotation := x, cycle := some { d with phase := .wait } }) hvhand hvact
    · rw [if_neg (State.canStart_not_stopping (hvbus.trans hb)), if_pos (hvbus.trans hb)]
      exact State.afterAttempt_stops_detached (hvbus.trans hb) fun a ha => absurd (hvhand.symm.trans ha) nofun
  case missed =>
    obtain ⟨hcount, hout⟩ := hfail.outcome (e := e)
    rw [← hvlimit] at hn
    rw [State.attemptEnd_read_present hcycle hd hv hcount hx, hout, State.readFailed_missed hn, ← hdone]
    exact ⟨fun hb => congrArg _ (hact_running _ hb), fun hb => ⟨_, rfl, hact_stopping _ rfl hb⟩⟩
  case absent =>
    have hk : readCount x e reply s.abm.counters = k := by
      rcases hcount with hfail | ⟨b, r, rfl, hserial, hbusy, hsame, hother⟩
      · exact (hfail.outcome (e := e)).1
      · by_cases htoggle : r.toggle = e
        · exact (readCount_of_accepted hserial hbusy htoggle _).trans (hsame htoggle).symm
        · exact (readCount_of_duplicate hserial hbusy htoggle _).trans (hother htoggle).symm
    rw [State.attemptEnd_read_absent hcycle hd hv hk hx, ← hdone]
    exact State.afterAttempt_worksOn huhand huact

end Sys2Proof.Machine

/-! SUPPORT and PROOFS. The end of a ROLL CALL or ENROLL attempt: what the sweep does with the range it asked (R139 to R144). -/

namespace Sys2Proof.Machine

/-! ### The outcomes of the sweep's attempts (R139, R142) -/

theorem Range.holds_iff (r : Range) (x : Serial) : r.holds x = true ↔ r.lo ≤ x ∧ x ≤ r.hi := by
  unfold Range.holds
  rw [Bool.and_eq_true, decide_eq_true_eq, decide_eq_true_eq]

theorem Range.not_holds {r : Range} {x : Serial} (h : x < r.lo ∨ r.hi < x) : ¬r.holds x = true := by
  rw [Range.holds_iff]
  rintro ⟨hlo, hhi⟩
  rcases h with h | h
  · exact absurd hlo (BitVec.not_le.2 h)
  · exact absurd hhi (BitVec.not_le.2 h)

/-- A range of more than one serial is split alike whether a drop would count or not. -/
theorem State.splitRange_of_lt {s : State} {r : Range} (h : r.lo < r.hi) (u : Bool) : s.splitRange r u = s.splitRange r false := by
  unfold State.splitRange
  rw [if_pos h, if_pos h]

theorem State.splitRange_single {s : State} {r : Range} (h : r.lo = r.hi) : s.splitRange r true = s.countTotal .addUnresolved := by
  have hnot : ¬r.lo < r.hi := by
    rw [h]
    exact BitVec.lt_irrefl _
  exact (if_neg hnot).trans (if_pos rfl)

/-- An ENROLL attempt fails with this reply, and `after` are the bus counters with the failure counted (R142). -/
def failedEnroll (x : Serial) (reply : AttemptReply) (before after : BusCounters) : Prop :=
  (reply = .timedOut ∧ after = { before with timeouts := min (before.timeouts + 1) (2 ^ 32 - 1) }) ∨
    (reply = .damaged ∧ after = { before with crcErrors := min (before.crcErrors + 1) (2 ^ 32 - 1) }) ∨
    (∃ b y, reply = .enrolled b y ∧ y ≠ x ∧ after = { before with wrongResponders := min (before.wrongResponders + 1) (2 ^ 32 - 1) })

theorem BusCounters.addTimeout_eq (k : BusCounters) : k.addTimeout = { k with timeouts := min (k.timeouts + 1) (2 ^ 32 - 1) } := by
  rw [← inc32_eq_min]
  rfl

theorem BusCounters.addCrcError_eq (k : BusCounters) : k.addCrcError = { k with crcErrors := min (k.crcErrors + 1) (2 ^ 32 - 1) } := by
  rw [← inc32_eq_min]
  rfl

theorem BusCounters.addWrongResponder_eq (k : BusCounters) :
    k.addWrongResponder = { k with wrongResponders := min (k.wrongResponders + 1) (2 ^ 32 - 1) } := by
  rw [← inc32_eq_min]
  rfl

section
variable {s v : State} {d : Cycle} {k : BusCounters} (hv : v = s.withAbm { s.abm with activity := .none, cycle := some d, counters := k })
include hv

/-- The counters of an outcome counted. -/
theorem State.countBus_of_outcome {f : BusCounters → BusCounters} (hk : k = f s.abm.counters) :
    (s.withAbm { s.abm with activity := .none, cycle := some d }).countBus f = v := by
  rw [hv, hk]
  rfl

/-- An outcome that counts nothing. -/
theorem State.eq_of_uncounted (hk : k = s.abm.counters) : s.withAbm { s.abm with activity := .none, cycle := some d } = v := by
  rw [hv, hk]

theorem State.enrollEnd_failed {r : Range} {x : Serial} {reply : AttemptReply} (h : failedEnroll x reply s.abm.counters k) (n : Nat) :
    (s.withAbm { s.abm with activity := .none, cycle := some d }).enrollEnd r x n reply = v.enrollFailed r x n := by
  rcases h with ⟨rfl, hk⟩ | ⟨rfl, hk⟩ | ⟨b, y, rfl, hy, hk⟩
  · rw [← State.countBus_of_outcome hv (hk.trans (BusCounters.addTimeout_eq _).symm)]
    rfl
  · rw [← State.countBus_of_outcome hv (hk.trans (BusCounters.addCrcError_eq _).symm)]
    rfl
  · rw [← State.countBus_of_outcome hv (hk.trans (BusCounters.addWrongResponder_eq _).symm)]
    exact if_neg hy

end

theorem State.enrollFailed_retry {s : State} {r : Range} {x : Serial} {n : Nat} (hn : n ≤ s.abm.config.retryLimit) : s.enrollFailed r x n =
    if s.canStart then s.startAttempt (.enroll r x) (n + 1) else (s.pushBack r).toPhase .wait := if_pos hn

theorem State.enrollFailed_over {s : State} {r : Range} {x : Serial} {n : Nat} (hn : s.abm.config.retryLimit < n) :
    s.enrollFailed r x n = s.splitRange r false := if_neg (Nat.not_le.2 hn)

/-! ### The statement -/

theorem attemptLength_here (r : Range) (d : Nat) (h : HereReply) : attemptLength (.rollCall r) (.here d h) = 275 + d := by
  show 143 + d + 121 + 11 = 275 + d
  omega

theorem attemptLength_enrolled (r : Range) (x y : Serial) (d : Nat) : attemptLength (.enroll r x) (.enrolled d y) = 209 + d := by
  show 99 + d + 99 + 11 = 209 + d
  omega

/-- The stop lets go of an act that the sweep waits for (R125). -/
theorem State.afterAttempt_stops_handed {s : State} (hbus : s.abm.bus = .stopping) (a : HandedAct) :
    busStops (s.withAtu { s.atu with handed := some a.detach }) (s.hand (some a)).afterAttempt := State.afterAttempt_stops (s := s.hand (some a)) hbus

/-- Settles O40. -/
theorem sweepAttemptEnd : Obligations.SweepAttemptEnd := by
  unfold Obligations.SweepAttemptEnd
  refine ⟨fun r x d h y => ⟨rfl, rfl, attemptLength_here r d h, rfl, rfl, attemptLength_enrolled r x y d⟩,
    fun s v c d r reply tr n k hrun hbus hcycle hphase hact hhand hd hv => ?_⟩
  have hvhand : v.atu.handed = none := (congrArg (·.atu.handed) hv).trans hhand
  have hvact : v.abm.activity = .none := congrArg (·.abm.activity) hv
  have hvbus : v.abm.bus = s.abm.bus := congrArg (·.abm.bus) hv
  have hvcycle : v.abm.cycle = some d := congrArg (·.abm.cycle) hv
  have hvatu : v.atu = s.atu := congrArg (·.atu) hv
  have hvconfig : v.abm.config = s.abm.config := congrArg (·.abm.config) hv
  have hdphase : d.phase = .sweep := by rw [hd, ← hphase]
  have hhalved : worksOn (v.halved d r) (v.halved d r).afterAttempt :=
    State.afterAttempt_worksOn (s := v.halved d r) ((congrArg Atu.handed (v.halved_keeps d r).1).trans hvhand) ((v.halved_keeps d r).2.trans hvact)
  -- an act handed over at the end of the attempt
  have hact_running (a : HandedAct) (hb : s.abm.bus = .running) : (v.hand (some a)).afterAttempt = v.withAtu { s.atu with handed := some a } := by
    rw [← hvatu]
    exact State.afterAttempt_same (s := v.hand (some a)) (hvbus.trans hb) (.inl nofun)
  have hact_stopping (a : HandedAct) (hb : s.abm.bus = .stopping) :
      busStops (v.withAtu { s.atu with handed := some a.detach }) (v.hand (some a)).afterAttempt := by
    rw [← hvatu]
    exact State.afterAttempt_stops_handed (hvbus.trans hb) a
  rw [exec_attemptEnd hrun hact, State.attemptEnd_eq hcycle hd]
  refine ⟨?rollCall, fun x => ?enroll⟩
  case rollCall =>
    rintro rfl
    refine ⟨fun b h hr hlo hhi hk => ?_, fun hfail => ⟨_, rfl, ?_⟩, fun hr hk => ?_⟩
    · have hjudge : (s.withAbm { s.abm with activity := .none, cycle := some d }).judge (.rollCall r) n reply = v.hand (some (.learn (some r) h)) := by
        rw [State.eq_of_uncounted hv hk, hr]
        exact if_pos ((r.holds_iff h.serial).2 ⟨hlo, hhi⟩)
      rw [hjudge]
      exact ⟨fun hb => congrArg _ (hact_running _ hb), fun hb => ⟨_, rfl, hact_stopping _ hb⟩⟩
    · have hjudge : (s.withAbm { s.abm with activity := .none, cycle := some d }).judge (.rollCall r) n reply = v := by
        rcases hfail with ⟨rfl, hk⟩ | ⟨b, h, rfl, hout, hk⟩
        · exact State.countBus_of_outcome hv (hk.trans (BusCounters.addTimeout_eq _).symm)
        · exact (if_neg (Range.not_holds hout)).trans (State.countBus_of_outcome hv (hk.trans (BusCounters.addWrongResponder_eq _).symm))
      rw [hjudge]
      exact State.afterAttempt_worksOn hvhand hvact
    · have hjudge : (s.withAbm { s.abm with activity := .none, cycle := some d }).judge (.rollCall r) n reply = v.splitRange r true := by
        rw [← State.countBus_of_outcome hv (hk.trans (BusCounters.addCrcError_eq _).symm), hr]
        rfl
      rw [hjudge]
      refine ⟨fun hlt => ⟨_, rfl, ?_⟩, fun heq => ⟨_, rfl, ?_⟩⟩
      · rw [State.splitRange_of_lt hlt, State.splitRange_halved hvcycle hdphase]
        exact hhalved
      · have hcounted : v.splitRange r true = v.withAbm { v.abm with totals :=
            { s.abm.totals with unresolved := min (s.abm.totals.unresolved + 1) (2 ^ 32 - 1) } } := by
          have htotals : v.abm.totals = s.abm.totals := congrArg (·.abm.totals) hv
          rw [State.splitRange_single heq, ← htotals, ← inc32_eq_min]
          rfl
        rw [hcounted]
        exact State.afterAttempt_worksOn (s := v.withAbm { v.abm with totals := _ }) hvhand hvact
  case enroll =>
    rintro rfl
    refine ⟨fun b hr hk => ?_, fun hfail => ?_⟩
    · have hjudge : (s.withAbm { s.abm with activity := .none, cycle := some d }).judge (.enroll r x) n reply =
          v.hand (some (.setToggle (some r) x)) := by
        rw [State.eq_of_uncounted hv hk, hr]
        exact if_pos rfl
      rw [hjudge]
      exact ⟨fun hb => congrArg _ (hact_running _ hb), fun hb => ⟨_, rfl, hact_stopping _ hb⟩⟩
    · have hjudge : (s.withAbm { s.abm with activity := .none, cycle := some d }).judge (.enroll r x) n reply = v.enrollFailed r x n :=
        State.enrollEnd_failed hv hfail n
      have hmayv : mayStart v d ↔ mayStart s d := by
        unfold mayStart
        rw [hvconfig]
      rw [hjudge, ← hvconfig]
      refine ⟨fun hn hb hmay => ?_, fun hn hno => ⟨_, rfl, ?_⟩, fun hn => ⟨_, rfl, ?_⟩⟩
      · rw [State.enrollFailed_retry hn, if_pos ((State.canStart_iff (hvbus.trans hb) hvcycle).2 (hmayv.2 hmay))]
        exact congrArg _ (State.afterAttempt_same (s := v.startAttempt (.enroll r x) (n + 1)) (hvbus.trans hb) (.inr nofun))
      · have hcannot : ¬v.canStart = true := fun hcan => by
          rcases hno with hb | hmay
          · exact State.canStart_not_stopping (hvbus.trans hb) hcan
          · exact hmay (hmayv.1 ((State.canStart_iff (State.canStart_running hcan) hvcycle).1 hcan))
        rw [State.enrollFailed_retry hn, if_neg hcannot]
        have hwaits : (v.pushBack r).toPhase .wait = (v.restacked r).waiting d := State.toPhase_waiting (s := v.pushBack r) hvcycle hvact
        rw [hwaits]
        exact State.afterAttempt_worksOn (s := (v.restacked r).waiting d) hvhand rfl
      · rw [State.enrollFailed_over hn, State.splitRange_halved hvcycle hdphase]
        exact hhalved

end Sys2Proof.Machine

/-! SUPPORT and PROOFS. The acts that the bus master hands over, on one entry of the Node Table (R133, R136, R155 to R160). -/

namespace Sys2Proof.Machine

/-! ### One entry of a table -/

/-- A change of the lines of one key changes the one line that has it. -/
theorem map_of_unique {α β : Type} [DecidableEq β] {key : α → β} {f : α → α} {l rs : List α} {e : α} {x : β} (he : key e = x)
    (hu : ∀ y ∈ l ++ rs, key y ≠ x) : (l ++ e :: rs).map (fun y => if key y = x then f y else y) = l ++ f e :: rs := by
  have hsame (k : List α) (hk : ∀ y ∈ k, key y ≠ x) : k.map (fun y => if key y = x then f y else y) = k := by
    calc k.map (fun y => if key y = x then f y else y) = k.map id := List.map_congr_left fun y hy => if_neg (hk y hy)
      _ = k := List.map_id k
  rw [List.map_append, List.map_cons, hsame l fun y hy => hu y (by simp [hy]), hsame rs fun y hy => hu y (by simp [hy]), if_pos he]

section
variable {s : State} {l rs : List NodeEntry} {e : NodeEntry} {x : Serial}

theorem State.updNode_at (f : NodeEntry → NodeEntry) (hn : s.nodes = l ++ e :: rs) (he : e.serial = x) (hu : ∀ y ∈ l ++ rs, y.serial ≠ x) :
    s.updNode x f = s.withNodes (l ++ f e :: rs) := by
  unfold State.updNode
  rw [hn, map_of_unique (key := NodeEntry.serial) he hu]

theorem State.node?_at (hop : s.atu.op = none) (hn : s.nodes = l ++ e :: rs) (he : e.serial = x) (hu : ∀ y ∈ l ++ rs, y.serial ≠ x) :
    s.node? x = some e := by
  unfold State.node?
  rw [s.presentNodes_of_none hop, hn, List.find?_append, List.find?_eq_none.2 fun y hy => by simpa using hu y (by simp [hy]), Option.none_or,
    List.find?_cons_of_pos (by simpa using he)]

theorem State.node?_absent (hop : s.atu.op = none) (h : ∀ y ∈ s.nodes, y.serial ≠ x) : s.node? x = none := by
  unfold State.node?
  rw [s.presentNodes_of_none hop]
  exact List.find?_eq_none.2 fun y hy => by simpa using h y hy

/-! ### The steps of the acceptance act on the entry -/

section
variable (hn : s.nodes = l ++ e :: rs) (hu : ∀ y ∈ l ++ rs, y.serial ≠ e.serial)
include hn hu

theorem State.halt_at : s.halt e = (s.withNodes (l ++ { e with state := .halted } :: rs)).withLink { s.link with flags := { s.link.flags with
    nodeHalted := s.link.flags.nodeHalted || e.state != .halted } } := by
  unfold State.halt
  by_cases h : e.state = .halted
  · have hsame : { e with state := .halted } = e := by rw [← h]
    rw [if_pos h, hsame, ← hn, h, bne_self_eq_false, Bool.or_false]
    rfl
  · rw [if_neg h, State.updNode_at _ hn rfl hu, bne_iff_ne.2 h, Bool.or_true]
    rfl

theorem State.migrate_at (z : ZoneNo) : s.migrate e z = (s.withNodes (l ++ { e with zone := z } :: rs)).withAbm { s.abm with totals :=
    { s.abm.totals with migrations := if e.zone = z then s.abm.totals.migrations else min (s.abm.totals.migrations + 1) (2 ^ 32 - 1) } } := by
  unfold State.migrate
  by_cases h : e.zone = z
  · have hsame : { e with zone := z } = e := by rw [← h]
    rw [if_pos h, if_pos h, hsame, ← hn]
    rfl
  · rw [if_neg h, if_neg h, State.updNode_at _ hn rfl hu, ← inc32_eq_min]
    rfl

theorem State.quarantined_at (n : Nat) : s.quarantined e.serial n = (s.withNodes (l ++ { e with
      tally := min (e.tally + n) 16777215, tallySaturated := e.tallySaturated || decide (16777215 < e.tally + n) } :: rs)).withAtu
    { s.atu with counters := { s.atu.counters with quarantined := min (s.atu.counters.quarantined + 1) (2 ^ 32 - 1) } } := by
  unfold State.quarantined
  rw [State.updNode_at _ hn rfl hu, ← inc32_eq_min, show min (e.tally + n) 16777215 = satAdd tallyLimit e.tally n from (satAdd_eq_min ..).symm]
  rfl

end

theorem State.orphaned_eq (s : State) (n : Nat) : s.orphaned n = (s.withAtu { s.atu with orphan := min (s.atu.orphan + n) (2 ^ 48 - 1) }).withAbm
    { s.abm with totals := { s.abm.totals with zoneInvalid := min (s.abm.totals.zoneInvalid + 1) (2 ^ 32 - 1) } } := by
  rw [← inc32_eq_min, show min (s.atu.orphan + n) (2 ^ 48 - 1) = satAdd lim48 s.atu.orphan n from (satAdd_eq_min ..).symm]
  rfl

theorem countAccepted_eq (n : Nat) (c : AtuCounters) : countAccepted n c = { c with
    resolved := min (c.resolved + 1) (2 ^ 32 - 1)
    saturated := if n = 65535 then min (c.saturated + 1) (2 ^ 32 - 1) else c.saturated } := by
  unfold countAccepted
  rw [← inc32_eq_min, ← inc32_eq_min]
  split <;> rfl

end

/-! ### The point that resolves a reading (R159) -/

theorem State.matchingPoint_eq_none {s : State} {x : Serial} {z : ZoneNo} :
    s.matchingPoint x z = none ↔ ∀ i : PointNo, ¬pointMatches s.points[i] x z := by
  simp only [pointMatches_iff]
  exact List.find?_eq_none.trans ⟨fun h i => h i (List.mem_finRange i), fun h i _ => h i⟩

theorem find?_finRange_eq_some {n : Nat} {p : Fin n → Bool} {i : Fin n} (hi : p i = true) (hlow : ∀ j, j < i → ¬p j = true) :
    (List.finRange n).find? p = some i := by
  rw [List.find?_eq_some_iff_getElem]
  refine ⟨hi, i.val, by simp, by simp, fun j hj => ?_⟩
  rw [List.getElem_finRange]
  simpa using hlow _ (show (⟨j, hj.trans i.isLt⟩ : Fin n) < i from hj)

theorem State.matchingPoint_eq_some {s : State} {x : Serial} {z : ZoneNo} {i : PointNo} (hi : pointMatches s.points[i] x z)
    (hlow : ∀ j : PointNo, j < i → ¬pointMatches s.points[j] x z) : s.matchingPoint x z = some i := by
  simp only [pointMatches_iff] at hi hlow
  exact find?_finRange_eq_some hi hlow

/-! ### The acceptance act -/

/-- The record of a reading, counted (R133, R155). -/
def State.recorded (s : State) (r : Reading) (l rs : List NodeEntry) (e : NodeEntry) : State :=
  (s.withNodes (l ++ e.record s.abm.cycleNumber r :: rs)).withAtu { s.atu with handed := none, counters := { s.atu.counters with
    resolved := min (s.atu.counters.resolved + 1) (2 ^ 32 - 1)
    saturated := if r.units = 65535 then min (s.atu.counters.saturated + 1) (2 ^ 32 - 1) else s.atu.counters.saturated } }

section
variable {s : State} {r : Reading} {l rs : List NodeEntry} {e : NodeEntry}

theorem State.accepted_at (hop : s.atu.op = none) (hn : s.nodes = l ++ e :: rs) (he : e.serial = r.serial) (hu : ∀ y ∈ l ++ rs, y.serial ≠ r.serial) :
    (s.hand none).accepted r = (s.recorded r l rs e).destination (e.record s.abm.cycleNumber r) r := by
  rw [State.accepted_present (s := s.hand none) (State.node?_at (s := s.hand none) hop hn he hu), State.updNode_at (s := s.hand none) _ hn he hu]
  have hcount := countAccepted_eq r.units s.atu.counters
  unfold State.recorded
  rw [← hcount]
  rfl

theorem exec_acceptanceAct (hrun : s.mainRuns = true) (hop : s.atu.op = none) (hr : s.atu.handed = some (.accept r)) :
    exec .acceptanceAct s = .next ((s.hand none).accepted r) := by
  show execAcceptanceAct s = _
  unfold execAcceptanceAct
  rw [hr]
  exact congrArg _ (if_pos (State.actReady_of_op_none hop hrun))

theorem NodeEntry.record_halted_iff (n : Word16) : (e.record n r).state = .halted ↔ e.state = .halted := by
  unfold NodeEntry.record
  cases e.state <;> simp

theorem NodeEntry.record_state_of_not_halted (n : Word16) (h : e.state ≠ .halted) : (e.record n r).state = .active := by
  unfold NodeEntry.record
  cases hst : e.state with
  | halted => exact absurd hst h
  | active => rfl
  | silent => rfl

theorem NodeEntry.record_of_ok (n : Word16) (htamper : r.status ≠ .tamper) (h : e.state ≠ .halted) : e.record n r =
    { e with toggle := !e.toggle, misses := 0, state := .active, lastUnits := some r.units, lastStatus := some .ok, lastCycle := some n } := by
  have hstate : (if e.state = .silent then .active else e.state) = .active := NodeEntry.record_state_of_not_halted (r := r) n h
  unfold NodeEntry.record
  rw [if_neg htamper, hstate]

end

/-! ### The destination of the units, with the entry in its place (R155 to R160) -/

section
variable {s : State} {r : Reading} {l rs : List NodeEntry} {e : NodeEntry} (hn : s.nodes = l ++ e :: rs) (he : e.serial = r.serial)
  (hu : ∀ y ∈ l ++ rs, y.serial ≠ e.serial)
include hn hu

/-- Units of a zone that is not defined (R156). -/
theorem State.destination_unused (hzone : s.zones[r.zone].state = .unused) : s.destination e r =
    (((s.withNodes (l ++ { e with state := if r.status = .tamper then .halted else e.state } :: rs)).withAtu
      { s.atu with orphan := min (s.atu.orphan + r.units) (2 ^ 48 - 1) }).withAbm
      { s.abm with totals := { s.abm.totals with zoneInvalid := min (s.abm.totals.zoneInvalid + 1) (2 ^ 32 - 1) } }).withLink
      { s.link with flags := { s.link.flags with nodeHalted := s.link.flags.nodeHalted || (r.status == .tamper && e.state != .halted) } } := by
  unfold State.destination
  rw [if_pos hzone]
  by_cases htamper : r.status = .tamper
  · rw [if_pos htamper, if_pos htamper, State.halt_at hn hu, State.orphaned_eq, beq_iff_eq.2 htamper]
    rfl
  · rw [if_neg htamper, if_neg htamper, State.orphaned_eq, beq_eq_false_iff_ne.2 htamper, Bool.false_and, Bool.or_false, ← hn]
    rfl

/-- The entry moved to the zone of the reading, and the migration counted (R157). -/
def State.moved (s : State) (z : ZoneNo) (l rs : List NodeEntry) (e : NodeEntry) : State :=
  (s.withNodes (l ++ { e with zone := z } :: rs)).withAbm { s.abm with totals :=
    { s.abm.totals with migrations := if e.zone = z then s.abm.totals.migrations else min (s.abm.totals.migrations + 1) (2 ^ 32 - 1) } }

include he in
/-- Units of a HALTED entry, or of a TAMPER reading (R158). -/
theorem State.destination_quarantined (hzone : s.zones[r.zone].state ≠ .unused) (hq : r.status = .tamper ∨ e.state = .halted) : s.destination e r =
    (((s.moved r.zone l rs e).withNodes (l ++ { e with
        state := .halted, zone := r.zone, tally := min (e.tally + r.units) 16777215
        tallySaturated := e.tallySaturated || decide (16777215 < e.tally + r.units) } :: rs)).withAtu
      { s.atu with counters := { s.atu.counters with quarantined := min (s.atu.counters.quarantined + 1) (2 ^ 32 - 1) } }).withLink
      { s.link with flags := { s.link.flags with nodeHalted := s.link.flags.nodeHalted || (r.status == .tamper && e.state != .halted) } } := by
  have hmoved : s.migrate e r.zone = s.moved r.zone l rs e := State.migrate_at hn hu r.zone
  unfold State.destination
  rw [if_neg hzone, hmoved]
  by_cases htamper : r.status = .tamper
  · have hhalt : (s.moved r.zone l rs e).halt e = (s.moved r.zone l rs e).halt { e with zone := r.zone } := rfl
    have hq := State.quarantined_at (s := (s.moved r.zone l rs e).halt e) (e := { e with zone := r.zone, state := .halted }) (l := l) (rs := rs)
      (by rw [hhalt, State.halt_at (s := s.moved r.zone l rs e) (e := { e with zone := r.zone }) rfl hu]; rfl) hu r.units
    dsimp only
    rw [if_pos htamper, ← he]
    refine hq.trans ?_
    rw [hhalt, State.halt_at (s := s.moved r.zone l rs e) (e := { e with zone := r.zone }) rfl hu, beq_iff_eq.2 htamper]
    rfl
  · have hhalted := hq.resolve_left htamper
    have hq := State.quarantined_at (s := s.moved r.zone l rs e) (e := { e with zone := r.zone }) (l := l) (rs := rs) rfl hu r.units
    dsimp only
    rw [if_neg htamper, if_pos hhalted, ← he]
    refine hq.trans ?_
    rw [beq_eq_false_iff_ne.2 htamper, Bool.false_and, Bool.or_false, hhalted]
    rfl

/-- Units of an ACTIVE entry, or a SILENT one, that no point resolves (R159, R160). -/
theorem State.destination_unmatched (hzone : s.zones[r.zone].state ≠ .unused) (htamper : r.status ≠ .tamper) (hhalted : e.state ≠ .halted)
    (hp : s.matchingPoint r.serial r.zone = none) : s.destination e r =
      ((s.moved r.zone l rs e).addU r.zone (r.units * 1000)).countAtu .addUnassigned := by
  have hmoved : s.migrate e r.zone = s.moved r.zone l rs e := State.migrate_at hn hu r.zone
  rw [State.destination_of_unmatched hzone htamper hhalted (by rw [hmoved]; exact hp), hmoved]

/-- Units of an ACTIVE entry, or a SILENT one, that a point resolves (R159, R160). -/
theorem State.destination_matched {i : PointNo} (hzone : s.zones[r.zone].state ≠ .unused) (htamper : r.status ≠ .tamper)
    (hhalted : e.state ≠ .halted) (hp : s.matchingPoint r.serial r.zone = some i) : s.destination e r =
      if s.points[i].kind ≠ r.kind then ((s.moved r.zone l rs e).addU r.zone (r.units * 1000)).countAtu .addMismatch
      else if s.zones[r.zone].hasMember s.points[i].account then
        ((s.moved r.zone l rs e).addW r.zone s.points[i].account (r.units * s.points[i].factor)).countAtu .addMember
      else ((s.moved r.zone l rs e).addU r.zone (r.units * 1000)).countAtu .addNonMember := by
  have hmoved : s.migrate e r.zone = s.moved r.zone l rs e := State.migrate_at hn hu r.zone
  rw [State.destination_of_matched hzone htamper hhalted (by rw [hmoved]; exact hp), hmoved]
  rfl

/-- Where the units of an ACTIVE entry, or a SILENT one, go, the entry has moved and one counter has changed. -/
theorem State.destination_placed (hzone : s.zones[r.zone].state ≠ .unused) (htamper : r.status ≠ .tamper) (hhalted : e.state ≠ .halted) :
    ∃ zs c, s.destination e r = ((s.moved r.zone l rs e).withZones zs).withAtu { s.atu with counters := c } := by
  cases hp : s.matchingPoint r.serial r.zone with
  | none => exact ⟨_, _, State.destination_unmatched hn hu hzone htamper hhalted hp⟩
  | some i =>
    rw [State.destination_matched hn hu hzone htamper hhalted hp]
    split
    · exact ⟨_, _, rfl⟩
    · split
      · exact ⟨_, _, rfl⟩
      · exact ⟨_, _, rfl⟩

end

/-- Units to the one line of an account in a zone's member list. -/
theorem State.addW_at {s : State} {z : ZoneNo} {a : AccountNo} {ml mr : List Member} {m : Member} (n : Nat) (hm : s.zones[z].members = ml ++ m :: mr)
    (ha : m.account = a) (hu : ∀ y ∈ ml ++ mr, y.account ≠ a) : s.addW z a n =
      s.withZones (s.zones.set z { s.zones[z] with members := ml ++ { m with openW := m.openW.add lim48 n } :: mr }) := by
  have hmap := map_of_unique (key := Member.account) (f := fun m => { m with openW := m.openW.add lim48 n }) ha hu
  unfold State.addW State.updZone upd
  rw [← hmap, ← hm]

/-- A state made from `s` by changes of the table, the unit, the ABM and the zones. -/
theorem State.acts_of_eq {s t : State} {n n' : List NodeEntry} {u u' : Atu} {b : Abm} {zs : Vector Zone 16}
    (h : t = (((((s.withNodes n').withAtu u').withNodes n).withAbm b).withZones zs).withAtu u) :
    t = ((((s.withNodes t.nodes).withAtu t.atu).withAbm t.abm).withZones t.zones).withLink s.link := by
  subst h
  rfl

/-- Settles O41. -/
theorem acceptanceAct : Obligations.AcceptanceAct := by
  unfold Obligations.AcceptanceAct
  intro s r l rs e z base hrun hop hr hbusy hn he hu hz hbase
  have hexec := exec_acceptanceAct hrun hop hr
  rw [State.accepted_at hop hn he hu] at hexec
  refine ⟨_, hexec, ?_⟩
  subst hz hbase
  have hun : (s.recorded r l rs e).nodes = l ++ e.record s.abm.cycleNumber r :: rs := rfl
  have huf : ∀ y ∈ l ++ rs, y.serial ≠ (e.record s.abm.cycleNumber r).serial := fun y hy h => hu y hy (h.trans he)
  have hflag : ((e.record s.abm.cycleNumber r).state != .halted) = (e.state != .halted) := by
    rw [Bool.eq_iff_iff, bne_iff_ne, bne_iff_ne, Ne, NodeEntry.record_halted_iff]
  by_cases hzone : s.zones[r.zone].state = .unused
  · refine ⟨?_, fun _ => ?_, fun h => absurd hzone h⟩
    all_goals rw [State.destination_unused hun huf hzone, hflag]
    · rfl
    · have hstate : (if r.status = .tamper then .halted else (e.record s.abm.cycleNumber r).state) =
          if r.status = .tamper ∨ e.state = .halted then NodeState.halted else .active := by
        by_cases hhalted : e.state = .halted
        · rw [(NodeEntry.record_halted_iff _).2 hhalted, ite_self, if_pos (.inr hhalted)]
        · simp only [NodeEntry.record_state_of_not_halted _ hhalted, hhalted, or_false]
      rw [hstate]
      exact ⟨rfl, rfl, by simp [State.recorded], rfl⟩
  by_cases hq : r.status = .tamper ∨ e.state = .halted
  · have hq' : r.status = .tamper ∨ (e.record s.abm.cycleNumber r).state = .halted := hq.imp_right (NodeEntry.record_halted_iff _).2
    have hplaced : r.status ≠ .tamper → e.state = .halted := hq.resolve_left
    refine ⟨?_, fun h => absurd h hzone, fun _ => ⟨?_, fun _ => ?_, fun ht hh => absurd (hplaced ht) hh⟩⟩
    all_goals rw [State.destination_quarantined hun he huf hzone hq', hflag]
    · rfl
    · rfl
    · exact ⟨rfl, rfl, by simp [State.recorded, State.moved]⟩
  obtain ⟨htamper, hhalted⟩ := not_or.1 hq
  have hhalted' : (e.record s.abm.cycleNumber r).state ≠ .halted := mt (NodeEntry.record_halted_iff _).1 hhalted
  obtain ⟨m, hmoved⟩ : ∃ m, m = (s.recorded r l rs e).moved r.zone l rs (e.record s.abm.cycleNumber r) := ⟨_, rfl⟩
  have hmatched (i : PointNo) (hi : pointMatches s.points[i] r.serial r.zone) (hlow : ∀ j : PointNo, j < i → ¬pointMatches s.points[j] r.serial r.zone) :
      (s.recorded r l rs e).destination (e.record s.abm.cycleNumber r) r =
        if s.points[i].kind ≠ r.kind then (m.addU r.zone (r.units * 1000)).countAtu .addMismatch
        else if s.zones[r.zone].hasMember s.points[i].account then (m.addW r.zone s.points[i].account (r.units * s.points[i].factor)).countAtu .addMember
        else (m.addU r.zone (r.units * 1000)).countAtu .addNonMember :=
    hmoved ▸ State.destination_matched hun huf hzone htamper hhalted' (State.matchingPoint_eq_some (s := s.recorded r l rs e) hi hlow)
  refine ⟨?_, fun h => absurd h hzone, fun _ => ⟨?_, fun h => absurd h hq, fun _ _ => ⟨?_, fun hno => ?_, fun i hi hlow => ⟨fun hkind => ?_,
    fun hkind hno => ?_, fun ml x mr hkind hm ha hua => ?_⟩⟩⟩⟩
  case refine_1 =>
    obtain ⟨zs, c, hd⟩ := State.destination_placed hun huf hzone htamper hhalted'
    rw [beq_eq_false_iff_ne.2 htamper, Bool.false_and, Bool.or_false]
    exact State.acts_of_eq hd
  case refine_2 =>
    obtain ⟨zs, c, hd⟩ := State.destination_placed hun huf hzone htamper hhalted'
    rw [hd]
    rfl
  case refine_3 =>
    obtain ⟨zs, c, hd⟩ := State.destination_placed hun huf hzone htamper hhalted'
    rw [hd, NodeEntry.record_of_ok _ htamper hhalted]
    rfl
  case refine_4 =>
    rw [State.destination_unmatched hun huf hzone htamper hhalted' (State.matchingPoint_eq_none (s := s.recorded r l rs e).2 hno),
      ← inc32_eq_min s.atu.counters.unassigned]
    exact ⟨rfl, rfl⟩
  case refine_5 =>
    rw [hmatched i hi hlow, if_pos hkind, ← inc32_eq_min s.atu.counters.mismatch]
    rw [hmoved]
    exact ⟨rfl, rfl⟩
  case refine_6 =>
    rw [hmatched i hi hlow, if_neg (not_not.2 hkind), if_neg (Zone.not_hasMember hno), ← inc32_eq_min s.atu.counters.nonMember]
    rw [hmoved]
    exact ⟨rfl, rfl⟩
  case refine_7 =>
    have hmember : s.zones[r.zone].hasMember s.points[i].account = true := (Zone.hasMember_iff ..).2 ⟨x, by rw [hm]; simp, ha⟩
    rw [hmatched i hi hlow, if_neg (not_not.2 hkind), if_pos hmember, ← inc32_eq_min s.atu.counters.member, hmoved,
      State.addW_at (s := (s.recorded r l rs e).moved r.zone l rs (e.record s.abm.cycleNumber r)) _ hm ha hua]
    exact ⟨rfl, rfl⟩

end Sys2Proof.Machine

/-! PROOFS. The miss act, learning and the expected toggle (R136, R141 to R143, R151 to R153). -/

namespace Sys2Proof.Machine

/-! ### The acts, taken or left waiting (R150) -/

section
variable {s : State}

theorem exec_missAct {x : Serial} (hrun : s.mainRuns = true) (hop : s.atu.op = none) (hx : s.atu.handed = some (.miss x)) :
    exec .missAct s = .next ((s.hand none).missed x) := by
  show execMissAct s = _
  unfold execMissAct
  rw [hx]
  exact congrArg _ (if_pos (State.actReady_of_op_none hop hrun))

theorem exec_learning {g : Option Range} {h : HereReply} (hrun : s.mainRuns = true) (hop : s.atu.op = none) (hh : s.atu.handed = some (.learn g h)) :
    exec .learning s = .next ((s.hand none).learn g h).stopOrProceed := by
  show execLearning s = _
  unfold execLearning
  rw [hh]
  exact congrArg _ (if_pos (State.actReady_of_op_none hop hrun))

theorem exec_setExpectedToggle {g : Option Range} {x : Serial} (hrun : s.mainRuns = true) (hop : s.atu.op = none)
    (hx : s.atu.handed = some (.setToggle g x)) : exec .setExpectedToggle s = .next ((s.hand none).setToggle g x).stopOrProceed := by
  show execSetExpectedToggle s = _
  unfold execSetExpectedToggle
  rw [hx]
  exact congrArg _ (if_pos (State.actReady_of_op_none hop hrun))

theorem State.actReady_of_op {op : NodeOp} (hop : s.atu.op = some op) : s.actReady = false := by
  simp [State.actReady, State.opInProgress, hop]

/-- An act waits for the operation in progress. -/
theorem exec_acts_wait {op : NodeOp} (hop : s.atu.op = some op) : exec .missAct s = .next s ∧ exec .acceptanceAct s = .next s ∧
    exec .learning s = .next s ∧ exec .setExpectedToggle s = .next s := by
  have hwait : ¬s.actReady = true := by rw [State.actReady_of_op hop]; nofun
  refine ⟨congrArg Host.Outcome.next ?_, congrArg Host.Outcome.next ?_, congrArg Host.Outcome.next ?_, congrArg Host.Outcome.next ?_⟩
  all_goals
    split
    · exact if_neg hwait
    · rfl

/-! ### The miss act -/

/-- The miss act on a present entry. -/
theorem State.missed_at {l rs : List NodeEntry} {e : NodeEntry} {x : Serial} {m : Nat} {st : NodeState} (hop : s.atu.op = none)
    (hn : s.nodes = l ++ e :: rs) (he : e.serial = x) (hu : ∀ y ∈ l ++ rs, y.serial ≠ x) (hm : m = min (e.misses + 1) 255)
    (hst : st = if e.state = .active ∧ s.abm.config.silentLimit ≤ m then .silent else e.state) :
    s.missed x = ((s.withNodes (l ++ { e with misses := m, state := st } :: rs)).withAtu { s.atu with
      op := if st = .silent ∧ s.abm.config.ageLimit ≤ m then some (.removal x .aging) else none }).withLink
      { s.link with flags := { s.link.flags with nodeSilent := s.link.flags.nodeSilent || (e.state == .active && st == .silent) } } := by
  have hmiss : e.miss s.abm.config.silentLimit = { e with misses := m, state := st } := by
    rw [hst, hm, ← satAdd_eq_min]
    rfl
  obtain ⟨u, hu'⟩ : ∃ u, u = (s.withNodes (l ++ { e with misses := m, state := st } :: rs)).withLink
      { s.link with flags := { s.link.flags with nodeSilent := s.link.flags.nodeSilent || (e.state == .active && st == .silent) } } := ⟨_, rfl⟩
  have hflag : u = if e.state = .active ∧ st = .silent then (s.withNodes (l ++ { e with misses := m, state := st } :: rs)).flag .raiseNodeSilent
      else s.withNodes (l ++ { e with misses := m, state := st } :: rs) := by
    by_cases h : e.state = .active ∧ st = .silent
    · rw [if_pos h, hu', beq_iff_eq.2 h.1, beq_iff_eq.2 h.2, Bool.and_self, Bool.or_true]
      rfl
    · have hno : (e.state == .active && st == .silent) = false := by simpa using h
      rw [if_neg h, hu', hno, Bool.or_false]
      rfl
  rw [State.missed_present (State.node?_at hop hn he hu) hmiss.symm (by rw [State.updNode_at _ hn he hu, hmiss]) hflag]
  by_cases hage : st = .silent ∧ s.abm.config.ageLimit ≤ m
  · rw [if_pos hage, if_pos hage, hu']
    rfl
  · rw [if_neg hage, if_neg hage, hu', ← hop]
    rfl

end

/-- Settles O42. -/
theorem missAct : Obligations.MissAct := by
  unfold Obligations.MissAct
  refine ⟨fun s x l rs e m st hrun hop hx hn he hu hm hst => ?_, fun s x hrun hop hno => ⟨fun hx => ?_, fun r hr hrx => ?_⟩, fun s op hop => exec_acts_wait hop⟩
  · rw [exec_missAct hrun hop hx, State.missed_at (s := s.hand none) hop hn he hu hm hst]
    rfl
  · rw [exec_missAct hrun hop hx, State.missed_absent (s := s.hand none) (State.node?_absent (s := s.hand none) hop hno)]
    rfl
  · rw [exec_acceptanceAct hrun hop hr, State.accepted_absent (s := s.hand none) (State.node?_absent (s := s.hand none) hop (hrx ▸ hno))]
    rfl

/-! ### Learning (R141, R151, R152) -/

theorem NodeEntry.relearn_eq (h : HereReply) (e : NodeEntry) : e.relearn h = { e with
    zone := h.zone, kind := h.kind, toggle := true
    state := if e.state = .halted then .halted else .active
    misses := if e.state = .halted then e.misses else 0 } := by
  unfold NodeEntry.relearn
  by_cases hst : e.state = .halted
  · rw [if_pos hst, if_pos hst, if_pos hst, ← hst]
  · rw [if_neg hst, if_neg hst, if_neg hst]

section
variable {s : State} {h : HereReply}

theorem State.learn_unused (g : Option Range) (hzone : s.zones[h.zone].state = .unused) :
    
    s.learn g h = g.elim (s.countTotal .addZoneInvalid) fun r => (s.countTotal .addZoneInvalid).splitRange r false := by
  cases g <;> exact if_pos hzone

variable (hop : s.atu.op = none) (hzone : s.zones[h.zone].state ≠ .unused)
include hop hzone

theorem State.learn_present (g : Option Range) {l rs : List NodeEntry} {e : NodeEntry} (hn : s.nodes = l ++ e :: rs) (he : e.serial = h.serial)
    (hu : ∀ y ∈ l ++ rs, y.serial ≠ h.serial) {w : State}
    (hw : w = s.withNodes (l ++ { e with
      zone := h.zone, kind := h.kind, toggle := true
      state := if e.state = .halted then .halted else .active
      misses := if e.state = .halted then e.misses else 0 } :: rs)) : s.learn g h = g.elim w fun r => w.startEnroll r h.serial := by
  rw [← NodeEntry.relearn_eq, ← State.updNode_at _ hn he hu] at hw
  have hpresent : (s.node? h.serial).isSome = true := by rw [State.node?_at hop hn he hu]; rfl
  rw [hw]
  cases g <;> exact (if_neg hzone).trans (if_pos hpresent)

variable (hno : ∀ y ∈ s.nodes, y.serial ≠ h.serial)
include hno

theorem State.learn_full (g : Option Range) (hfull : 384 ≤ s.nodes.length) : s.learn g h =
    g.elim (s.countTotal .addTableFull) fun _ => ((s.countTotal .addTableFull).endSweep .abortedTableFull).flag .raiseNodeTableFull := by
  have habsent : ¬(s.node? h.serial).isSome = true := by rw [State.node?_absent hop hno]; nofun
  cases g <;> exact (if_neg hzone).trans ((if_neg habsent).trans (if_pos hfull))

theorem State.learn_insertion (g : Option Range) (hroom : s.nodes.length < 384) : s.learn g h =
    g.elim (s.withAtu { s.atu with op := some (.insertion h) }) fun r =>
      (s.withAtu { s.atu with op := some (.insertion h) }).withActivity (.learning r h.serial) := by
  have habsent : ¬(s.node? h.serial).isSome = true := by rw [State.node?_absent hop hno]; nofun
  cases g <;> exact (if_neg hzone).trans ((if_neg habsent).trans (if_neg (Nat.not_le.2 hroom)))

end

/-! ### A bus that goes no further -/

/-- A bus with a wait or a frame in hand is left alone. -/
theorem State.stopOrProceed_busy {s : State} (h : s.abm.activity ≠ .none) : s.stopOrProceed = s := by
  by_cases hb : s.abm.bus = .stopping
  · unfold State.stopOrProceed
    rw [if_pos hb, if_pos ((State.stopWaits_iff s).2 (.inl h))]
  · exact State.stopOrProceed_same hb (.inr h)

/-- The bus is OFF, or at work on something else than a sweep. -/
def State.besideSweep (s : State) : Prop :=
  (s.abm.bus = .off ∧ s.abm.cycle = none ∧ s.abm.activity = .none) ∨ s.abm.activity = .beacon ∨
    ∃ c, s.abm.bus = .running ∧ s.abm.activity = .none ∧ s.abm.cycle = some c ∧ c.phase ≠ .sweep ∧ c.elapsed < c.budget

theorem State.besideSweep.stays {s : State} (hh : s.atu.handed = none) (h : s.besideSweep) : s.stopOrProceed = s := by
  rcases h with ⟨hbus, hcycle, -⟩ | hbeacon | ⟨c, hbus, hact, hcycle, hphase, htime⟩
  · exact State.stopOrProceed_off hbus hcycle
  · exact State.stopOrProceed_busy (by rw [hbeacon]; nofun)
  · obtain ⟨-, hrunning⟩ := State.stopOrProceed_worksOn hh hact
    exact ((hrunning c hbus hcycle).1 hphase).1 htime

/-! ### The totals of a learning without an insertion (R146) -/

section
variable {s v : State} (h : v.abm = s.abm)
include h

theorem State.countTotal_zoneInvalid : v.countTotal .addZoneInvalid = v.withAbm { s.abm with totals :=
    { s.abm.totals with zoneInvalid := min (s.abm.totals.zoneInvalid + 1) (2 ^ 32 - 1) } } := by
  rw [← inc32_eq_min, ← h]
  rfl

theorem State.countTotal_tableFull : v.countTotal .addTableFull = v.withAbm { s.abm with totals :=
    { s.abm.totals with tableFull := min (s.abm.totals.tableFull + 1) (2 ^ 32 - 1) } } := by
  rw [← inc32_eq_min, ← h]
  rfl

end

/-- Settles O43. -/
theorem learningAct : Obligations.LearningAct := by
  unfold Obligations.LearningAct
  refine ⟨fun s v c g hrun hop hbus hact hcycle hphase hv => ?sweep, fun s v hrun hop hv hbeside => ?beside⟩
  case sweep =>
    have hvnone : v = s.hand none := hv
    refine ⟨fun h hh => ?_, fun x hx => ?toggle⟩
    case toggle =>
      refine ⟨_, exec_setExpectedToggle hrun hop hx, ?_⟩
      have hset : (s.hand none).setToggle (some g) x =
          (v.withNodes (s.nodes.map fun y => if y.serial = x then { y with toggle := true } else y)).restacked g := by rw [hv]; rfl
      rw [hset]
      exact State.stopOrProceed_worksOn (by rw [hv]; rfl) (by rw [hv]; exact hact)
    rw [exec_learning hrun hop hh, ← hvnone]
    have hvop : v.atu.op = none := by rw [hv]; exact hop
    have hvhanded : v.atu.handed = none := by rw [hv]; rfl
    have hvabm : v.abm = s.abm := by rw [hv]; rfl
    have hvcycle : v.abm.cycle = some c := by rw [hv]; exact hcycle
    have hvact : v.abm.activity = .none := by rw [hv]; exact hact
    refine ⟨fun hzone => ⟨_, rfl, ?_⟩, fun hzone => ⟨fun l e rs w hn he hu hw => ?_, fun hno hfull => ⟨_, rfl, ?_⟩, fun hno hroom => ?_⟩⟩
    · obtain ⟨hatu, hactivity⟩ := (v.countTotal .addZoneInvalid).halved_keeps c g
      rw [State.learn_unused _ (by rw [hv]; exact hzone), Option.elim_some, State.splitRange_halved (s := v.countTotal .addZoneInvalid) hvcycle hphase,
        ← State.countTotal_zoneInvalid hvabm]
      exact State.stopOrProceed_worksOn (by rw [hatu]; exact hvhanded) (hactivity.trans hvact)
    · have hlearn := State.learn_present hvop (by rw [hv]; exact hzone) (some g) (by rw [hv]; exact hn) he hu hw
      have hwabm : w.abm = s.abm := by rw [hw, hv]; rfl
      rw [hlearn, Option.elim_some, ← hwabm]
      obtain ⟨hstarts, hprevented⟩ := State.startEnroll_follows (s := w) g h.serial (by rw [hw]; exact hvhanded) (by rw [hw]; exact hvact)
        (by rw [hw]; exact hvcycle)
      have hmay : mayStart w c ↔ mayStart s c := by
        unfold mayStart
        rw [hwabm]
      exact ⟨fun hrunning hstart => congrArg Host.Outcome.next (hstarts hrunning (hmay.2 hstart)),
        fun hno => ⟨_, rfl, hprevented (hno.imp_right (mt hmay.1))⟩⟩
    · have hover : ((v.countTotal .addTableFull).endSweep .abortedTableFull).flag .raiseNodeTableFull =
          ((v.countTotal .addTableFull).sweepOver c .abortedTableFull).withLink
            { s.link with flags := { s.link.flags with sweepDone := true, nodeTableFull := true } } := by
        rw [State.endSweep_over (s := v.countTotal .addTableFull) _ hvcycle hphase, hv]
        rfl
      rw [State.learn_full hvop (by rw [hv]; exact hzone) (by rw [hv]; exact hno) _ (by rw [hv]; exact hfull), Option.elim_some, hover,
        ← State.countTotal_tableFull hvabm]
      exact State.stopOrProceed_worksOn hvhanded hvact
    · rw [State.learn_insertion hvop (by rw [hv]; exact hzone) (by rw [hv]; exact hno) _ (by rw [hv]; exact hroom), Option.elim_some,
        State.stopOrProceed_busy (by show Activity.learning _ _ ≠ _; nofun), hv]
      rfl
  case beside =>
    have hvnone : v = s.hand none := hv
    have hvabm : v.abm = s.abm := by rw [hv]; rfl
    have hvop : v.atu.op = none := by rw [hv]; exact hop
    have hvhanded : v.atu.handed = none := by rw [hv]; rfl
    have hvbeside : v.besideSweep := by
      unfold State.besideSweep
      rw [hvabm]
      exact hbeside
    refine ⟨fun h hh => ?_, fun x hx => ?toggle⟩
    case toggle =>
      rw [exec_setExpectedToggle hrun hop hx, ← hvnone]
      have hset : v.setToggle none x = v.withNodes (s.nodes.map fun y => if y.serial = x then { y with toggle := true } else y) := by rw [hv]; rfl
      rw [hset]
      exact congrArg Host.Outcome.next (State.besideSweep.stays (s := v.withNodes _) hvhanded hvbeside)
    rw [exec_learning hrun hop hh, ← hvnone]
    refine ⟨fun hzone => ?_, fun hzone => ⟨fun l e rs hn he hu => ?_, fun hno hfull => ?_, fun hno hroom => ?_⟩⟩
    · rw [State.learn_unused _ (by rw [hv]; exact hzone), Option.elim_none, ← State.countTotal_zoneInvalid hvabm]
      exact congrArg Host.Outcome.next (State.besideSweep.stays (s := v.countTotal .addZoneInvalid) hvhanded hvbeside)
    · rw [State.learn_present hvop (by rw [hv]; exact hzone) none (by rw [hv]; exact hn) he hu rfl, Option.elim_none]
      exact congrArg Host.Outcome.next (State.besideSweep.stays (s := v.withNodes _) hvhanded hvbeside)
    · rw [State.learn_full hvop (by rw [hv]; exact hzone) (by rw [hv]; exact hno) _ (by rw [hv]; exact hfull), Option.elim_none,
        ← State.countTotal_tableFull hvabm]
      exact congrArg Host.Outcome.next (State.besideSweep.stays (s := v.countTotal .addTableFull) hvhanded hvbeside)
    · rw [State.learn_insertion hvop (by rw [hv]; exact hzone) (by rw [hv]; exact hno) _ (by rw [hv]; exact hroom), Option.elim_none]
      refine congrArg Host.Outcome.next ((State.besideSweep.stays (s := v.withAtu { v.atu with op := some (.insertion h) }) hvhanded hvbeside).trans ?_)
      rw [hv]
      rfl

end Sys2Proof.Machine

/-! PROOFS. The end of a Node Table operation (R150). -/

namespace Sys2Proof.Machine

/-- The table of `v` is that of `s` changed by the operation in progress, and FORGET NODE is answered (R148, R154). -/
def State.opDone (s v : State) (op : NodeOp) : Prop :=
  (∃ h l rs, op = .insertion h ∧ s.nodes = l ++ rs ∧ (∀ y ∈ l, y.serial < h.serial) ∧ (∀ y ∈ rs, h.serial < y.serial) ∧
    v = (s.withAtu { s.atu with op := none }).withNodes (l ++ ⟨h.serial, h.zone, h.kind, .active, true, 0, none, none, none, 0, false⟩ :: rs)) ∨
  (∃ x, op = .removal x .aging ∧ v = (s.withAtu { s.atu with op := none }).withNodes (s.nodes.filter fun y => y.serial != x)) ∨
  (∃ x type ns, op = .removal x .forget ∧ s.link.receiver = .processTaken type ∧ ns = s.nodes.filter (fun y => y.serial != x) ∧
    v = ((s.withAtu { s.atu with op := none }).withNodes ns).withLink { s.link with
      receiver := .send ⟨type ||| 0x80#8, .ok, .forgotten x ns.length⟩ })

section
variable {s v : State} {op : NodeOp}

theorem State.opDone.abm (h : s.opDone v op) : v.abm = s.abm := by
  rcases h with ⟨_, _, _, _, _, _, _, rfl⟩ | ⟨_, _, rfl⟩ | ⟨_, _, _, _, _, _, rfl⟩
  all_goals rfl

theorem State.opDone.handed (h : s.opDone v op) : v.atu.handed = s.atu.handed := by
  rcases h with ⟨_, _, _, _, _, _, _, rfl⟩ | ⟨_, _, rfl⟩ | ⟨_, _, _, _, _, _, rfl⟩
  all_goals rfl

/-- The change of the table and the reply, whatever the ABM holds. -/
theorem State.opDone.changed (h : s.opDone v op) (b : Abm) : ((s.withAbm b).tableChanged op).forgetReply op = v.withAbm b := by
  rcases h with ⟨h, l, rs, rfl, hn, hl, hr, rfl⟩ | ⟨x, rfl, rfl⟩ | ⟨x, type, ns, rfl, hrec, rfl, rfl⟩
  · rw [← insertNode_between ⟨h.serial, h.zone, h.kind, .active, true, 0, none, none, none, 0, false⟩ l rs hl hr, ← hn]
    rfl
  · rfl
  · unfold State.forgetReply
    rw [show ((s.withAbm b).tableChanged (.removal x .forget)).link.receiver = _ from hrec]
    rfl

/-- The end of an operation that the bus does not wait for. -/
theorem State.opDone.ends_alone (h : s.opDone v op) (hwaits : s.busWaits = false) (hact : ∀ g x, s.abm.activity ≠ .learning g x) (w : Nat) :
    s.opEnded op w = v := by
  have hafter : v.afterInsertion = v := by
    unfold State.afterInsertion
    rw [h.abm]
    split
    · next hlearn => exact absurd hlearn (hact _ _)
    all_goals rfl
  have hchanged : (s.tableChanged op).forgetReply op = v := (h.changed s.abm).trans (by rw [← h.abm]; rfl)
  unfold State.opEnded
  rw [hwaits]
  exact (congrArg State.afterInsertion hchanged).trans hafter

/-- The end of an operation that the bus waits for, its time counted. -/
theorem State.opDone.ends_waited {c : Cycle} {w : Nat} (h : s.opDone v op) (hwaits : s.busWaits = true) (hcycle : s.abm.cycle = some c) :
    s.opEnded op w = (v.withAbm { s.abm with cycle := some { c with elapsed := c.elapsed + max w c.passed, passed := 0 } }).afterInsertion.stopOrProceed := by
  have hcounted : s.counted = c.passed := by
    unfold State.counted
    rw [hcycle]
  have helapse : s.elapse (max w s.counted) = s.withAbm { s.abm with cycle := some { c with elapsed := c.elapsed + max w c.passed, passed := 0 } } := by
    rw [hcounted]
    unfold State.elapse State.updCycle State.withCycle
    rw [hcycle]
    rfl
  unfold State.opEnded
  rw [hwaits, helapse]
  exact congrArg (fun t : State => t.afterInsertion.stopOrProceed) (h.changed _)

theorem exec_nodeTableOpEnd (w : Fin 6) (hrun : s.mainRuns = true) (hop : s.atu.op = some op) :
    exec (.nodeTableOpEnd w) s = .next (s.opEnded op w.val) := by
  show execNodeTableOpEnd w s = _
  unfold execNodeTableOpEnd
  rw [hop]
  exact congrArg _ (if_pos hrun)

theorem State.busWaits_of_cycle_none (h : s.abm.cycle = none) : s.busWaits = false := by
  unfold State.busWaits
  rw [h]

theorem State.busWaits_of_idle {c : Cycle} (hc : s.abm.cycle = some c) (hact : s.abm.activity = .none) :
    s.busWaits = (s.atu.handed.isSome || c.phase == .poll) := by
  unfold State.busWaits
  rw [hc, hact]

theorem State.busWaits_of_learning {c : Cycle} {g : Range} {x : Serial} (hc : s.abm.cycle = some c) (hact : s.abm.activity = .learning g x) :
    s.busWaits = true := by
  unfold State.busWaits
  rw [hc, hact]

/-- A bus that sends waits for nothing. -/
theorem State.busWaits_of_sending (h : s.abm.activity = .beacon ∨ ∃ tr n reply, s.abm.activity = .attempt tr n reply) : s.busWaits = false := by
  unfold State.busWaits
  split
  · rfl
  · rcases h with h | ⟨tr, n, reply, h⟩
    all_goals rw [h]

/-- A bus that waits for the act in hand goes no further. -/
theorem State.stopOrProceed_waits (hh : s.atu.handed ≠ none)
    (h : s.abm.bus = .running ∨ ∃ r h, s.atu.handed = some (.learn (some r) h)) : s.stopOrProceed = s := by
  by_cases hstop : s.abm.bus = .stopping
  · have hlearn := h.resolve_left (by rw [hstop]; nofun)
    unfold State.stopOrProceed
    rw [if_pos hstop, if_pos ((State.stopWaits_iff s).2 (.inr hlearn))]
  · exact State.stopOrProceed_same hstop (.inl hh)

end

/-- Settles O44. -/
theorem nodeTableOpEnd : Obligations.NodeTableOpEnd := by
  unfold Obligations.NodeTableOpEnd
  intro s v w op hrun hop hv
  have hdone : s.opDone v op := hv
  rw [exec_nodeTableOpEnd w hrun hop]
  refine ⟨fun hbus => congrArg Host.Outcome.next ?alone, fun c d hbus hcycle hd => ?waited⟩
  case alone =>
    rcases hbus with ⟨hcycle, hact⟩ | hact | ⟨tr, n, reply, hact⟩ | ⟨c, hcycle, hact, hh, hphase⟩
    · exact hdone.ends_alone (State.busWaits_of_cycle_none hcycle) (by rw [hact]; nofun) _
    · exact hdone.ends_alone (State.busWaits_of_sending (.inl hact)) (by rw [hact]; nofun) _
    · exact hdone.ends_alone (State.busWaits_of_sending (.inr ⟨_, _, _, hact⟩)) (by rw [hact]; nofun) _
    · refine hdone.ends_alone ?_ (by rw [hact]; nofun) _
      rw [State.busWaits_of_idle hcycle hact, hh, beq_eq_false_iff_ne.2 hphase]
      rfl
  case waited =>
    subst hd
    refine ⟨fun hact => ?idle, fun h g hins hact hh => ?learning⟩
    case idle =>
      have hwaits := State.busWaits_of_idle hcycle hact
      obtain ⟨u, hu⟩ : ∃ u, u = v.withAbm { s.abm with cycle := some { c with elapsed := c.elapsed + max w.val c.passed, passed := 0 } } := ⟨_, rfl⟩
      have huact : u.abm.activity = .none := by rw [hu]; exact hact
      have huhanded : u.atu.handed = s.atu.handed := by rw [hu]; exact hdone.handed
      have hubus : u.abm.bus = s.abm.bus := by rw [hu]; rfl
      have hafter : u.afterInsertion = u := by
        unfold State.afterInsertion
        rw [huact]
      rw [← hu]
      refine ⟨fun hh hwho => ?_, fun hh hpoll => ?_⟩
      · rw [hdone.ends_waited (hwaits.trans (by rw [Option.isSome_iff_ne_none.2 hh, Bool.true_or])) hcycle, ← hu, hafter]
        exact congrArg Host.Outcome.next (State.stopOrProceed_waits (by rw [huhanded]; exact hh) (by rw [hubus, huhanded]; exact hwho))
      · rw [hdone.ends_waited (hwaits.trans (by rw [beq_iff_eq.2 hpoll, Bool.or_true])) hcycle, ← hu, hafter]
        exact ⟨_, rfl, State.stopOrProceed_worksOn (huhanded.trans hh) huact⟩
    case learning =>
      have hvabm := hdone.abm
      rw [hdone.ends_waited (State.busWaits_of_learning hcycle hact) hcycle]
      obtain ⟨d, hd⟩ : ∃ d, d = { c with elapsed := c.elapsed + max w.val c.passed, passed := 0 } := ⟨_, rfl⟩
      rw [← hd]
      have hafter : (v.withAbm { s.abm with cycle := some d }).afterInsertion =
          (v.withAbm { s.abm with cycle := some d, activity := .none }).startEnroll g h.serial := by
        unfold State.afterInsertion
        rw [State.withAbm_abm, hact]
        rfl
      obtain ⟨hstarts, hprevented⟩ := State.startEnroll_follows (s := v.withAbm { s.abm with cycle := some d, activity := .none }) (c := d) g h.serial
        (hdone.handed.trans hh) rfl rfl
      rw [hafter]
      refine ⟨fun hrunning hmay => congrArg Host.Outcome.next (hstarts hrunning hmay), fun hno => ⟨_, rfl, ?_⟩⟩
      have hsame : ((v.withAbm { s.abm with cycle := some d, activity := .none }).restacked g).waiting d = (v.restacked g).waiting d := by
        rw [← hvabm]
        rfl
      exact hsame ▸ hprevented hno

end Sys2Proof.Machine

/-! PROOFS. The requests for nodes (R154, R163, R167). -/

namespace Sys2Proof.Machine

/-! ### READ NODE (R167) -/

theorem nodeKey_eq_none {sel : Byte} {key : BitVec 32} (nodes : List NodeEntry) (h : 1 < sel.toNat ∨ (sel = 0#8 ∧ 383 < key.toNat)) :
    nodeKey sel key nodes = none := by
  rcases h with h | ⟨rfl, h⟩
  · unfold nodeKey
    split
    · omega
    · omega
    · rfl
  · exact if_pos h

theorem nodeKey_index {key : BitVec 32} (nodes : List NodeEntry) (h : key.toNat ≤ 383) : nodeKey 0#8 key nodes = some key.toNat :=
  if_neg (Nat.not_lt.2 h)

theorem nodeKey_serial (key : BitVec 32) (nodes : List NodeEntry) : nodeKey 1#8 key nodes = some (nodes.findIdx fun e => e.serial == key) := rfl

section
variable {sel : Byte} {key : BitVec 32} {s : State}

theorem readNodeOwner_bad (h : nodeKey sel key s.nodes = none) : readNodeOwner sel key s = refuse .badValue s := by
  unfold readNodeOwner
  rw [h]

theorem readNodeOwner_good {i : Nat} (h : nodeKey sel key s.nodes = some i) :
    readNodeOwner sel key s = if s.opInProgress then refuse .notReady s else accept (.nodeRecord s.nodes.length (s.foundAt i)) s := by
  unfold readNodeOwner
  rw [h]

end

section
variable {s : State} {i : Nat}

theorem State.foundAt_entry : (s.foundAt i).map (·.entry) = s.nodes[i]? := by
  unfold State.foundAt
  cases s.nodes[i]? <;> rfl

theorem State.foundAt_index {n : FoundNode} (h : s.foundAt i = some n) : n.index = i ∧ s.nodes[i]? = some n.entry ∧ n.point = s.resolvingPoint n.entry := by
  obtain ⟨e, he, rfl⟩ := Option.map_eq_some_iff.1 h
  exact ⟨rfl, he, rfl⟩

theorem State.foundAt_serial_iff (key : BitVec 32) :
    s.foundAt (s.nodes.findIdx fun e => e.serial == key) = none ↔ ∀ y ∈ s.nodes, y.serial ≠ key := by
  rw [State.foundAt, Option.map_eq_none_iff, List.getElem?_eq_none_iff]
  constructor
  · intro h
    have hlen := List.findIdx_eq_length.1 (le_antisymm List.findIdx_le_length h)
    exact fun y hy => by simpa using hlen y hy
  · intro h
    exact (List.findIdx_eq_length.2 fun y hy => by simpa using h y hy).ge

theorem State.foundAt_serial {key : BitVec 32} {n : FoundNode} (h : s.foundAt (s.nodes.findIdx fun e => e.serial == key) = some n) :
    n.entry.serial = key := by
  obtain ⟨-, he, -⟩ := State.foundAt_index h
  obtain ⟨hlen, hget⟩ := List.getElem?_eq_some_iff.1 he
  have hp := List.findIdx_getElem (w := hlen)
  rw [hget] at hp
  simpa using hp

theorem State.matchingPoint_matches {x : Serial} {z : ZoneNo} {i : PointNo} (h : s.matchingPoint x z = some i) : pointMatches s.points[i] x z :=
  (pointMatches_iff ..).2 (List.find?_some (p := fun i : PointNo => s.points[i].covers x z) h)

/-- What a node record says of the point that resolves its entry. -/
theorem State.resolvingPoint_says (s : State) (e : NodeEntry) :
    (s.resolvingPoint e = none ↔ ∀ i : PointNo, ¬pointMatches s.points[i] e.serial e.zone) ∧
    ∀ p, s.resolvingPoint e = some p → pointMatches s.points[p.index] e.serial e.zone ∧ p.kind = s.points[p.index].kind ∧
      p.account = s.points[p.index].account ∧ (p.member = true ↔ ∃ m ∈ s.zones[e.zone].members, m.account = p.account) := by
  refine ⟨Option.map_eq_none_iff.trans State.matchingPoint_eq_none, fun p hp => ?_⟩
  obtain ⟨i, hi, rfl⟩ := Option.map_eq_some_iff.1 hp
  exact ⟨State.matchingPoint_matches hi, rfl, rfl, Zone.hasMember_iff _ _⟩

theorem State.opInProgress_iff : s.opInProgress = true ↔ s.atu.op ≠ none := Option.isSome_iff_ne_none

end

/-! ### RELEASE NODE (R163) -/

theorem dispositionOf_eq_none {db : Byte} (h : 1 < db.toNat) : dispositionOf db = none := by
  unfold dispositionOf
  split
  · omega
  · omega
  · rfl

theorem dispositionOf_isSome {db : Byte} (h : db.toNat ≤ 1) : ∃ d, dispositionOf db = some d := by
  unfold dispositionOf
  rcases Nat.le_one_iff_eq_zero_or_eq_one.1 h with h | h
  · exact ⟨.discard, by rw [h] <;> rfl⟩
  · exact ⟨.toPool, by rw [h] <;> rfl⟩

/-- What RELEASE NODE does to the state. -/
def State.releasedNode (s : State) (x : Serial) (d : Disposition) (e : NodeEntry) : State :=
  (s.dispose d e).updNode x fun x => { x with tally := 0, tallySaturated := false, state := .active }

theorem State.releasedNode_withLink (s : State) (x : Serial) (d : Disposition) (e : NodeEntry) (l : Link) :
    (s.withLink l).releasedNode x d e = (s.releasedNode x d e).withLink l := by
  cases d <;> rfl

section
variable {x : Serial} {db : Byte} {s : State}

theorem releaseNodeOwner_badValue (h : 1 < db.toNat) : releaseNodeOwner x db s = refuse .badValue s := by
  unfold releaseNodeOwner
  rw [dispositionOf_eq_none h]

theorem releaseNodeOwner_notReady (h : db.toNat ≤ 1) (hop : s.atu.op ≠ none) : releaseNodeOwner x db s = refuse .notReady s := by
  obtain ⟨d, hd⟩ := dispositionOf_isSome h
  unfold releaseNodeOwner
  rw [hd]
  exact if_pos (State.opInProgress_iff.2 hop)

section
variable (hop : s.atu.op = none)
include hop

theorem State.not_opInProgress : ¬s.opInProgress = true := fun h => State.opInProgress_iff.1 h hop

theorem releaseNodeOwner_badIndex (h : db.toNat ≤ 1) (hno : ∀ y ∈ s.nodes, y.serial ≠ x) : releaseNodeOwner x db s = refuse .badIndex s := by
  obtain ⟨d, hd⟩ := dispositionOf_isSome h
  unfold releaseNodeOwner
  rw [hd, State.node?_absent hop hno]
  exact if_neg (State.not_opInProgress hop)

variable {l rs : List NodeEntry} {e : NodeEntry} (hn : s.nodes = l ++ e :: rs) (he : e.serial = x) (hu : ∀ y ∈ l ++ rs, y.serial ≠ x)
include hn he hu

theorem releaseNodeOwner_wrongState (h : db.toNat ≤ 1) (hst : e.state ≠ .halted) : releaseNodeOwner x db s = refuse .wrongState s := by
  obtain ⟨d, hd⟩ := dispositionOf_isSome h
  unfold releaseNodeOwner
  rw [hd, State.node?_at hop hn he hu]
  exact (if_neg (State.not_opInProgress hop)).trans (if_pos hst)

variable {d : Disposition} (hd : dispositionOf db = some d) (hst : e.state = .halted)
include hd hst

theorem releaseNodeOwner_objects {st : Status} (ho : s.poolObjection d e.zone = some st) : releaseNodeOwner x db s = refuse st s := by
  unfold releaseNodeOwner
  rw [hd, State.node?_at hop hn he hu]
  dsimp only
  rw [if_neg (State.not_opInProgress hop), if_neg (not_not.2 hst), ho]

theorem releaseNodeOwner_done (ho : s.poolObjection d e.zone = none) :
    releaseNodeOwner x db s = accept (.released x d e.tally) (s.releasedNode x d e) := by
  unfold releaseNodeOwner
  rw [hd, State.node?_at hop hn he hu]
  dsimp only
  rw [if_neg (State.not_opInProgress hop), if_neg (not_not.2 hst), ho] <;> rfl

end
end

/-! ### FORGET NODE (R154) -/

section
variable {x : Serial} {s : State}

theorem forgetNodeOwner_notReady (hop : s.atu.op ≠ none) : forgetNodeOwner x s = refuse .notReady s := if_pos (State.opInProgress_iff.2 hop)

variable (hop : s.atu.op = none)
include hop

theorem forgetNodeOwner_badIndex (hno : ∀ y ∈ s.nodes, y.serial ≠ x) : forgetNodeOwner x s = refuse .badIndex s := by
  unfold forgetNodeOwner
  rw [State.node?_absent hop hno]
  exact if_neg (State.not_opInProgress hop)

theorem forgetNodeOwner_at {l rs : List NodeEntry} {e : NodeEntry} (hn : s.nodes = l ++ e :: rs) (he : e.serial = x)
    (hu : ∀ y ∈ l ++ rs, y.serial ≠ x) : forgetNodeOwner x s =
      if e.state = .halted then refuse .wrongState s else .wait (s.withAtu { s.atu with op := some (.removal x .forget) }) := by
  unfold forgetNodeOwner
  rw [State.node?_at hop hn he hu]
  exact if_neg (State.not_opInProgress hop)

end

/-- A taken request whose reply waits. -/
theorem State.next_take_of_wait {s t : State} {i : Instr} {type : Byte} {owner : State → Answer} (h : s.canTake i = true)
    (ho : owner (s.withLink s.link.arrived) = .wait t) :
    Host.Outcome.next (s.take i type owner) =
      (.next (t.withLink { t.link with receiver := .processTaken type }) : Host.Outcome State Fault Refusal) :=
  congrArg _ (State.take_wait h (s.arrive_eq ▸ ho))

/-- Settles O45. -/
theorem nodeRequests : Obligations.NodeRequests := by
  unfold Obligations.NodeRequests
  refine ⟨fun sel key s h => ⟨fun hbad => ?_, fun hgood => ?read⟩, fun x db s h => ⟨fun hbad => ?_, fun hdb hop => ?_, fun hdb hop hno => ?_,
    fun l e rs z hdb hop hn he hu hz => ?release⟩, fun x s h => ⟨fun hop => ?_, fun hop hno => ?_, fun l e rs hop hn he hu => ⟨fun hst => ?_, fun hst => ?_⟩⟩⟩
  · exact State.next_take_of_refuse h fun k => readNodeOwner_bad (s := s.withLink k) (nodeKey_eq_none _ hbad)
  case read =>
    have hkey : ∃ i, nodeKey sel key s.nodes = some i ∧ (sel = 0#8 → i = key.toNat) ∧ (sel = 1#8 → i = s.nodes.findIdx fun e => e.serial == key) := by
      rcases hgood with ⟨rfl, hle⟩ | rfl
      · exact ⟨_, nodeKey_index _ hle, fun _ => rfl, nofun⟩
      · exact ⟨_, nodeKey_serial _ _, nofun, fun _ => rfl⟩
    obtain ⟨i, hi, hindex, hserial⟩ := hkey
    refine ⟨fun hop => ?_, fun hop => ⟨s.foundAt i, ?_, fun h0 => ?_, fun h1 => ?_, fun n hfound => ?_⟩⟩
    · exact State.next_take_of_refuse h fun k => (readNodeOwner_good (s := s.withLink k) hi).trans (if_pos (State.opInProgress_iff.2 hop))
    · exact State.next_take_of_accept h fun k => (readNodeOwner_good (s := s.withLink k) hi).trans (if_neg (State.not_opInProgress hop))
    · rw [hindex h0]
      exact ⟨State.foundAt_entry, fun n hn => (State.foundAt_index hn).1⟩
    · rw [hserial h1]
      refine ⟨State.foundAt_serial_iff key, fun n hn => ⟨State.foundAt_serial hn, ?_⟩⟩
      obtain ⟨hidx, hentry, -⟩ := State.foundAt_index hn
      rw [hidx]
      exact hentry
    · obtain ⟨-, -, hpoint⟩ := State.foundAt_index hfound
      rw [hpoint]
      exact s.resolvingPoint_says n.entry
  · exact State.next_take_of_refuse h fun k => releaseNodeOwner_badValue hbad
  · exact State.next_take_of_refuse h fun k => releaseNodeOwner_notReady (s := s.withLink k) hdb hop
  · exact State.next_take_of_refuse h fun k => releaseNodeOwner_badIndex (s := s.withLink k) hop hdb hno
  case release =>
    subst hz
    have hnodes (f : NodeEntry → NodeEntry) (t : State) (ht : t.nodes = s.nodes) : t.updNode x f = t.withNodes (l ++ f e :: rs) :=
      State.updNode_at f (ht.trans hn) he hu
    refine ⟨fun hst => ?_, fun hst hdb => ?_, fun hst hdb => ?pool⟩
    · exact State.next_take_of_refuse h fun k => releaseNodeOwner_wrongState (s := s.withLink k) hop hn he hu hdb hst
    · subst hdb
      refine (State.next_take_of_act (State.releasedNode · x .discard e) h
        (fun k => releaseNodeOwner_done (s := s.withLink k) hop hn he hu rfl hst rfl) fun k => s.releasedNode_withLink x _ e k).trans ?_
      have hsum : min (s.atu.discarded + e.tally) (2 ^ 48 - 1) = satAdd lim48 s.atu.discarded e.tally := (satAdd_eq_min ..).symm
      rw [State.releasedNode, hnodes _ _ (by rfl), hsum]
      rfl
    case pool =>
      subst hdb
      have hpool : s.poolObjection .toPool e.zone =
        if s.zones[e.zone].state = .unused then some .wrongState else if s.zones[e.zone].state.busy then some .busy else none := rfl
      refine ⟨fun hz => ?_, fun hz => ?_, fun hz => ?_⟩
      · exact State.next_take_of_refuse h fun k => releaseNodeOwner_objects (s := s.withLink k) (d := .toPool) hop hn he hu rfl hst (hpool.trans (if_pos hz))
      · have hunused : s.zones[e.zone].state ≠ .unused := by
          intro hzone
          rw [hzone] at hz
          simp at hz
        exact State.next_take_of_refuse h fun k => releaseNodeOwner_objects (s := s.withLink k) (d := .toPool) hop hn he hu rfl hst
          (hpool.trans ((if_neg hunused).trans (if_pos ((ZoneState.busy_iff _).2 hz))))
      · have hnone : s.poolObjection .toPool e.zone = none :=
          hpool.trans ((if_neg (ZoneState.not_unused_of_opened hz)).trans (if_neg (ZoneState.not_busy_of_opened hz)))
        refine (State.next_take_of_act (State.releasedNode · x .toPool e) h
          (fun k => releaseNodeOwner_done (s := s.withLink k) hop hn he hu rfl hst hnone) fun k => s.releasedNode_withLink x _ e k).trans ?_
        have hsum : min (s.zones[e.zone].openU.value + e.tally * 1000) (2 ^ 48 - 1) = satAdd lim48 s.zones[e.zone].openU.value (e.tally * 1000) :=
          (satAdd_eq_min ..).symm
        rw [State.releasedNode, hnodes _ _ (by rfl), hsum]
        rfl
  · exact State.next_take_of_refuse h fun k => forgetNodeOwner_notReady (s := s.withLink k) hop
  · exact State.next_take_of_refuse h fun k => forgetNodeOwner_badIndex (s := s.withLink k) hop hno
  · exact State.next_take_of_refuse h fun k => (forgetNodeOwner_at (s := s.withLink k) hop hn he hu).trans (if_pos hst)
  · exact State.next_take_of_wait h ((forgetNodeOwner_at (s := s.withLink s.link.arrived) hop hn he hu).trans (if_neg hst))

end Sys2Proof.Machine

/-! PROOFS. The Point Assignment Table requests (R164 to R166). -/

namespace Sys2Proof.Machine

/-! ### The fields of WRITE POINT (R165) -/

theorem kindOf_eq_none {b : Byte} (h : 2 < b.toNat) : kindOf b = none := by
  unfold kindOf
  split
  · omega
  · omega
  · omega
  · rfl

theorem pointFieldsOf_eq (x : Serial) (zb kb ab : Byte) (f : Word16) : pointFieldsOf x zb kb ab f =
    (optionalZoneOf zb).bind fun z => (kindOf kb).bind fun k => (accountOf ab).bind fun a =>
      if a = 0 ∨ f.toNat = 0 then none else some ⟨true, x, z, k, a, f.toNat⟩ := rfl

theorem pointFieldsOf_eq_none {zb kb ab : Byte} {f : Word16} (x : Serial)
    (h : (15 < zb.toNat ∧ zb ≠ 0xFF#8) ∨ 2 < kb.toNat ∨ ab = 0#8 ∨ 127 < ab.toNat ∨ f = 0#16) : pointFieldsOf x zb kb ab f = none := by
  rw [pointFieldsOf_eq, Option.bind_eq_none_iff]
  intro z hz
  rw [Option.bind_eq_none_iff]
  intro k hk
  rw [Option.bind_eq_none_iff]
  intro a ha
  rcases h with ⟨hlt, hne⟩ | h | rfl | h | rfl
  · exact absurd (hz.symm.trans (optionalZoneOf_eq_none hlt hne)) nofun
  · exact absurd (hk.symm.trans (kindOf_eq_none h)) nofun
  · obtain rfl : (0 : AccountNo) = a := Option.some.inj ((accountOf_eq_some rfl).symm.trans ha)
    exact if_pos (.inl rfl)
  · exact absurd (ha.symm.trans (accountOf_eq_none h)) nofun
  · exact if_pos (.inr rfl)

theorem pointFieldsOf_eq_some {zb kb ab : Byte} {f : Word16} {z : Option ZoneNo} {k : NodeKind} {a : AccountNo} (x : Serial)
    (hz : optionalZoneOf zb = some z) (hk : kindOf kb = some k) (ha : accountOf ab = some a) (ha0 : a ≠ 0) (hf : f ≠ 0#16) :
    pointFieldsOf x zb kb ab f = some ⟨true, x, z, k, a, f.toNat⟩ := by
  rw [pointFieldsOf_eq, hz, hk, ha]
  exact if_neg (not_or.2 ⟨ha0, mt (Word16.toNat_eq_zero_iff f).1 hf⟩)

theorem filtersOverlap_iff (a b : Option ZoneNo) : filtersOverlap a b = true ↔ b = none ∨ a = none ∨ a = b := by
  rw [filtersOverlap, Bool.or_eq_true, Bool.or_eq_true, beq_iff_eq, beq_iff_eq, beq_iff_eq, or_comm (a := a = none), or_assoc]

theorem State.pointConflict_iff (s : State) (i : PointNo) (p : Point) : s.pointConflict i p = true ↔
    ∃ j : PointNo, j ≠ i ∧ s.points[j].valid = true ∧ s.points[j].serial = p.serial ∧
      (p.zoneFilter = none ∨ s.points[j].zoneFilter = none ∨ s.points[j].zoneFilter = p.zoneFilter) := by
  simp only [State.pointConflict, allPoints, List.any_eq_true, List.mem_finRange, true_and, Bool.and_eq_true, bne_iff_ne, beq_iff_eq,
    filtersOverlap_iff, and_assoc]

/-! ### The point number (R165, R166) -/

theorem withPoint_bad {ib : Byte} (h : 63 < ib.toNat) (s : State) (k : PointNo → Answer) : withPoint ib s k = refuse .badIndex s := by
  unfold withPoint pointOf
  rw [show index 64 ib.toNat = none from dif_neg (Nat.not_lt.2 h)]

theorem withPoint_good {ib : Byte} {i : PointNo} (h : ib.toNat = i.val) (s : State) (k : PointNo → Answer) : withPoint ib s k = k i := by
  unfold withPoint pointOf
  rw [index_eq_some h]

theorem toList_eq_map_finRange {α : Type} {n : Nat} (v : Vector α n) : v.toList = (List.finRange n).map fun i => v[i] := by
  refine List.ext_getElem (by simp) fun j h1 h2 => ?_
  simp

theorem State.validPoints_eq (s : State) : s.validPoints = s.points.toList.countP (·.valid) := by
  rw [toList_eq_map_finRange, List.countP_map, List.countP_eq_length_filter]
  rfl

/-- Settles O46. -/
theorem pointRequests : Obligations.PointRequests := by
  unfold Obligations.PointRequests
  refine ⟨fun ib x zb kb ab f s h => ⟨fun hbad => ?_, fun i hi => ⟨fun hbad => ?_, fun z k a hz hk ha ha0 hf => ?write⟩⟩,
    fun ib s h => ⟨fun hbad => ?_, fun i hi => ?_⟩, fun ib s h => ⟨fun hbad => ?_, fun i hi => ?read⟩⟩
  · exact State.next_take_of_refuse h fun _ => withPoint_bad hbad ..
  · exact State.next_take_of_refuse h fun _ => by
      rw [pointFieldsOf_eq_none x hbad]
      exact withPoint_good hi ..
  case write =>
    have howner (t : State) : writePointOwner ib (pointFieldsOf x zb kb ab f) t =
        if t.pointConflict i ⟨true, x, z, k, a, f.toNat⟩ then refuse .conflict t
        else accept (.point i ⟨true, x, z, k, a, f.toNat⟩) (t.withPoints (t.points.set i ⟨true, x, z, k, a, f.toNat⟩)) := by
      rw [pointFieldsOf_eq_some x hz hk ha ha0 hf]
      exact withPoint_good hi ..
    refine ⟨fun hconflict => ?_, fun hfree => ?_⟩
    · exact State.next_take_of_refuse h fun l => (howner _).trans (if_pos ((State.pointConflict_iff (s.withLink l) ..).2 hconflict))
    · have hno (l : Link) : ¬(s.withLink l).pointConflict i ⟨true, x, z, k, a, f.toNat⟩ = true := by
        rw [State.pointConflict_iff]
        rintro ⟨j, hj, hvalid, hserial, hover⟩
        obtain ⟨h1, h2, h3⟩ := hfree j hj hvalid hserial
        exact hover.elim h1 (Or.rec h2 h3)
      exact State.next_take_of_done (fun t => t.withPoints (t.points.set i ⟨true, x, z, k, a, f.toNat⟩)) h
        (fun l => (howner _).trans (if_neg (hno l))) (fun _ _ => rfl) fun _ => rfl
  · exact State.next_take_of_refuse h fun _ => withPoint_bad hbad ..
  · exact State.next_take_of_done (fun t => t.withPoints (t.points.set i { t.points[i] with valid := false })) h
      (fun _ => withPoint_good hi ..) (fun _ _ => rfl) fun _ => rfl
  · exact State.next_take_of_refuse h fun _ => withPoint_bad hbad ..
  case read =>
    refine ⟨s.validPoints, s.pointNode s.points[i], State.next_take_of_accept h fun _ => withPoint_good hi .., s.validPoints_eq,
      fun hvalid => if_neg (by rw [hvalid]; nofun), fun hvalid hop => (if_pos hvalid).trans ?_⟩
    unfold State.node?
    rw [s.presentNodes_of_none hop]

end Sys2Proof.Machine

/-! PROOFS. The taking of a zone and the stages of a settlement up to STANDING, and its release (R23, R26 to R34, R41, R46). -/

namespace Sys2Proof.Machine

/-! ### The stages, taken -/

section
variable {s : State} {z : ZoneNo} {g : Gathered} {f : FixedParts} {k : ConsumptionParts} {a : Bands (List Nat)}

theorem State.atStage_of {st : Stage} (hrun : s.mainRuns = true) (hst : s.sen.stage = st) (hz : s.sen.zone = some z) : s.atStage st = some z := by
  unfold State.atStage
  rw [hrun, beq_iff_eq.2 hst, hz]
  rfl

theorem State.toStage_eq (hz : s.sen.zone = some z) (st : Stage) (x : Scratch) : s.toStage st x = s.withSen ⟨st, some z, x⟩ := by
  unfold State.toStage
  rw [hz]

variable (hrun : s.mainRuns = true) (hz : s.sen.zone = some z)
include hrun hz

theorem exec_gather (hst : s.sen.stage = .gather) :
    exec .gather s = .next (s.withSen ⟨.fixed, some z, ⟨some (s.gathered z), none, none, none, none⟩⟩) := by
  show execGather s = _
  unfold execGather
  rw [← State.toStage_eq hz, State.atStage_of hrun hst hz] <;> rfl

theorem exec_release (hst : s.sen.stage = .release) : exec .release s = .next (s.releaseZone z) := by
  show execRelease s = _
  unfold execRelease
  rw [State.atStage_of hrun hst hz]

variable (hg : s.sen.scratch.gathered = some g)
include hg

theorem exec_fixed (hst : s.sen.stage = .fixed) :
    exec .fixed s = .next (s.withSen ⟨.consumption, some z, { s.sen.scratch with fixed := some (fixedParts g) }⟩) := by
  show execFixed s = _
  unfold execFixed
  rw [← State.toStage_eq hz, State.atStage_of hrun hst hz, hg]

theorem exec_consumption (hst : s.sen.stage = .consumption) (hf : s.sen.scratch.fixed = some f) :
    exec .consumption s = .next (s.withSen ⟨.area, some z, { s.sen.scratch with consumption := some (consumptionParts g f) }⟩) := by
  show execConsumption s = _
  unfold execConsumption
  rw [← State.toStage_eq hz, State.atStage_of hrun hst hz, hg, hf]

theorem exec_area (hst : s.sen.stage = .area) (hk : s.sen.scratch.consumption = some k) :
    exec .area s = .next (s.withSen ⟨.standing, some z, { s.sen.scratch with area := some (areaShares g k) }⟩) := by
  show execArea s = _
  unfold execArea
  rw [← State.toStage_eq hz, State.atStage_of hrun hst hz, hg, hk]

theorem exec_standing (hst : s.sen.stage = .standing) :
    exec .standing s = .next (s.withSen ⟨.post, some z, { s.sen.scratch with standing := standingShares g }⟩) := by
  show execStanding s = _
  unfold execStanding
  rw [← State.toStage_eq hz, State.atStage_of hrun hst hz, hg]

theorem exec_post (hst : s.sen.stage = .post) (hf : s.sen.scratch.fixed = some f) (hk : s.sen.scratch.consumption = some k)
    (ha : s.sen.scratch.area = some a) : exec .post s = .next ((s.postSettlement z g f k a).toStage .release s.sen.scratch) := by
  show execPost s = _
  unfold execPost
  rw [State.atStage_of hrun hst hz, hg, hf, hk, ha]

end

/-! ### GATHER (R26) -/

theorem sum_map_filter {α : Type} (p : α → Bool) (f : α → Nat) (l : List α) :
    ((l.filter p).map f).sum = (l.map fun x => if p x = true then f x else 0).sum := by
  induction l with
  | nil => rfl
  | cons x xs ih =>
    rw [List.filter_cons]
    by_cases hp : p x = true
    · rw [if_pos hp, List.map_cons, List.map_cons, List.sum_cons, List.sum_cons, ih, if_pos hp]
    · rw [if_neg hp, List.map_cons, List.sum_cons, ih, if_neg hp, Nat.zero_add]

theorem State.sum_assigned (s : State) (z : ZoneNo) (f : ChannelNo → Nat) :
    ((s.assigned z).map f).sum = ((List.finRange 8).map fun c : ChannelNo => if s.channels[c].zone = some z then f c else 0).sum := by
  have hall : allChannels = List.finRange 8 := by decide
  unfold State.assigned
  rw [sum_map_filter, hall]
  simp only [beq_iff_eq]

theorem ChannelHalf.anySaturated_iff (h : ChannelHalf) : h.anySaturated = true ↔ h.estimated.saturated = true ∨ ∃ b : BandNo, h.bands[b].saturated = true := by
  rw [ChannelHalf.anySaturated, Bool.or_eq_true, List.any_eq_true]
  exact or_congr_right ⟨fun ⟨b, _, hb⟩ => ⟨b, hb⟩, fun ⟨b, hb⟩ => ⟨b, mem_allBands b, hb⟩⟩

theorem State.inputSaturated_iff (s : State) (z : ZoneNo) : s.inputSaturated z = true ↔ (∃ m ∈ s.zones[z].members, m.closingW.saturated = true) ∨
    s.zones[z].closing.u.saturated = true ∨ ∃ c : ChannelNo, s.channels[c].zone = some z ∧
      (s.channels[c].closing.estimated.saturated = true ∨ ∃ b : BandNo, s.channels[c].closing.bands[b].saturated = true) := by
  unfold State.inputSaturated
  rw [Bool.or_eq_true, Bool.or_eq_true, List.any_eq_true, List.any_eq_true, or_assoc]
  refine or_congr_right (or_congr_right (exists_congr fun c => ?_))
  rw [State.mem_assigned, ChannelHalf.anySaturated_iff]

/-- Settles O47. -/
theorem takeGatherRelease : Obligations.TakeGatherRelease := by
  unfold Obligations.TakeGatherRelease
  refine ⟨fun s z rest hrun hst hq => ?take, fun s z hrun hst hz => ⟨s.gathered z, exec_gather hrun hz hst, fun b => ?_, s.sum_assigned z _,
    rfl, rfl, rfl, rfl, rfl, rfl, rfl, rfl, s.inputSaturated_iff z⟩, fun s z hrun hst hz => ⟨_, exec_release hrun hz hst, rfl, fun c => mapChannels_get _ _ c⟩⟩
  case take =>
    show execSenTakeZone s = _
    unfold execSenTakeZone State.takeZone
    rw [hrun, beq_iff_eq.2 hst, hq]
    simp only [State.alreadyPosted, beq_iff_eq]
    rfl
  · rw [← s.sum_assigned z fun c => s.channels[c].closing.bands[b].value]
    exact bandwise_get _ b

end Sys2Proof.Machine

/-! PROOFS. The division of a settlement (R27, R30 to R34). -/

namespace Sys2Proof.Machine

/-! ### CONSUMPTION (R30, R31) -/

section
variable {g : Gathered} {f : FixedParts}

theorem Gathered.noUnits_iff : g.noUnits = true ↔ (∀ m ∈ g.members, m.w = 0) ∧ g.u = 0 := by
  simp [Gathered.noUnits, Gathered.weights, List.sum_eq_zero_iff]

theorem Gathered.weights_pos (h : ¬g.noUnits = true) : 0 < g.weights.sum :=
  Nat.pos_of_ne_zero fun hsum => h (beq_iff_eq.2 hsum)

theorem Gathered.length_weights (g : Gathered) : g.weights.length = g.members.length + 1 := by
  simp [Gathered.weights]

theorem consumptionParts_memberless (h : g.members = []) : consumptionParts g f = ⟨bandwise fun _ => [], Bands.zero, g.p, false⟩ := if_pos h

theorem consumptionParts_members (h : g.members ≠ []) : consumptionParts g f =
    { shares := bandwise fun b => (g.divide f.c[b]).take g.members.length
      unattributed := bandwise fun b => (g.divide f.c[b]).getD g.members.length 0
      g := if g.noUnits then g.p else bandwise fun b => f.f[b] + (g.divide f.c[b]).getD g.members.length 0
      allArea := g.noUnits } := if_neg h

/-- A list of one more element than `n` is its first `n` elements and the last. -/
theorem take_append_getD {l : List Nat} {n : Nat} (h : l.length = n + 1) : l.take n ++ [l.getD n 0] = l := by
  have hlt : n < l.length := by omega
  rw [List.getD_eq_getElem l 0 hlt, ← List.take_succ_eq_append_getElem hlt, ← h, List.take_length]

/-- Without units every share is 0 and everything is divided by area (R31). -/
theorem consumptionParts_noUnits (h : g.members ≠ []) (hno : g.noUnits = true) (b : BandNo) :
    (consumptionParts g f).shares[b] = List.replicate g.members.length 0 ∧ (consumptionParts g f).unattributed[b] = 0 ∧
      (consumptionParts g f).g[b] = g.p[b] := by
  have hdivide : g.divide f.c[b] = List.replicate (g.members.length + 1) 0 := if_pos hno
  rw [consumptionParts_members h]
  refine ⟨(bandwise_get _ b).trans ?_, (bandwise_get _ b).trans ?_, ?_⟩
  · rw [hdivide, List.take_replicate]
    simp
  · rw [hdivide]
    simp
  · exact congrArg (fun v : Bands Nat => v[b]) (if_pos hno)

/-- With units the consumption part is divided among the members and the unattributed recipient (R30, R33). -/
theorem consumptionParts_units (h : g.members ≠ []) (hno : ¬g.noUnits = true) (b : BandNo) :
    (consumptionParts g f).shares[b] ++ [(consumptionParts g f).unattributed[b]] = apportion f.c[b] g.weights ∧
      (consumptionParts g f).g[b] = f.f[b] + (consumptionParts g f).unattributed[b] := by
  have hdivide : g.divide f.c[b] = apportion f.c[b] g.weights := if_neg hno
  have hun : (consumptionParts g f).unattributed[b] = (g.divide f.c[b]).getD g.members.length 0 := by
    rw [consumptionParts_members h]
    exact bandwise_get _ b
  have hshares : (consumptionParts g f).shares[b] = (g.divide f.c[b]).take g.members.length := by
    rw [consumptionParts_members h]
    exact bandwise_get _ b
  have hg : (consumptionParts g f).g[b] = f.f[b] + (g.divide f.c[b]).getD g.members.length 0 := by
    rw [consumptionParts_members h]
    exact (congrArg (fun v : Bands Nat => v[b]) (if_neg hno)).trans (bandwise_get _ b)
  rw [hg, hun, hshares, hdivide]
  exact ⟨take_append_getD (by rw [length_apportion, Gathered.length_weights]), rfl⟩

theorem fixedParts_f (g : Gathered) (b : BandNo) : (fixedParts g).f[b] = g.p[b] * g.fixedShare / 1000 := bandwise_get _ b

theorem fixedParts_c (g : Gathered) (b : BandNo) : (fixedParts g).c[b] = g.p[b] - (fixedParts g).f[b] := by
  rw [fixedParts_f]
  exact bandwise_get _ b

theorem fixedParts_add (b : BandNo) (h : g.fixedShare ≤ 1000) : (fixedParts g).f[b] + (fixedParts g).c[b] = g.p[b] := by
  have hle : g.p[b] * g.fixedShare / 1000 ≤ g.p[b] :=
    Nat.div_le_of_le_mul (by rw [Nat.mul_comm]; exact Nat.mul_le_mul_right _ h)
  rw [fixedParts_c, fixedParts_f]
  exact Nat.add_sub_cancel' hle

end

/-- Settles O48. -/
theorem divisionStages : Obligations.DivisionStages := by
  unfold Obligations.DivisionStages
  refine ⟨fun s z g hrun hst hz hg => ⟨_, exec_fixed hrun hz hg hst, fun b => ?fixed⟩,
    fun s z g f hrun hst hz hg hf => ⟨_, exec_consumption hrun hz hg hst hf, ?allArea, fun b => ?consumption⟩,
    fun s z g k hrun hst hz hg hk => ⟨_, exec_area hrun hz hg hst hk, fun b => ?area⟩,
    fun s z g hrun hst hz hg => ⟨_, exec_standing hrun hz hg hst, fun hnone => ?_, fun charge hcharge => ?standing⟩⟩
  case fixed =>
    have hf := fixedParts_f g b
    have hc := fixedParts_c g b
    refine ⟨hf, hc, fixedParts_add b, fun h0 => ?_, fun h1 => ?_⟩
    · rw [hf, h0, Nat.mul_zero, Nat.zero_div]
    · rw [hc, hf, h1, Nat.mul_div_cancel _ (by decide), Nat.sub_self]
  case allArea =>
    by_cases h : g.members = []
    · rw [consumptionParts_memberless h]
      simp [h]
    · rw [consumptionParts_members h]
      exact Gathered.noUnits_iff.trans (and_iff_right h).symm
  case consumption =>
    refine ⟨fun h => ?_, fun h hw hu => consumptionParts_noUnits h (Gathered.noUnits_iff.2 ⟨hw, hu⟩) b, fun h hunits => consumptionParts_units h (fun hno => ?_) b⟩
    · rw [consumptionParts_memberless h]
      exact ⟨bandwise_get _ b, bandwise_get (fun _ => 0) b, rfl⟩
    · obtain ⟨hw, hu⟩ := Gathered.noUnits_iff.1 hno
      exact hunits.elim (fun ⟨m, hm, hne⟩ => hne (hw m hm)) fun hne => hne hu
  case area =>
    unfold areaShares
    refine ⟨fun h => ?_, fun h => ?_⟩
    · rw [if_pos h]
      exact bandwise_get _ b
    · rw [if_neg h]
      exact bandwise_get _ b
  · rw [standingShares, hnone]
    rfl
  case standing =>
    rw [standingShares, hcharge]
    exact ⟨fun h => congrArg some (if_pos h), fun h => congrArg some (if_neg h)⟩

/-! ### Nothing is lost (R33, R34) -/

/-- Two lists of one length, added place by place. -/
theorem sum_getD_add {l r : List Nat} {n : Nat} (hl : l.length = n) (hr : r.length = n) :
    ((List.range n).map fun i => l.getD i 0 + r.getD i 0).sum = l.sum + r.sum := by
  rw [sum_map_range, Finset.sum_add_distrib, sum_eq_sum_getD l, sum_eq_sum_getD r, hl, hr]

theorem Gathered.areas_pos {g : Gathered} (h : g.members ≠ []) (hpos : ∀ m ∈ g.members, 1 ≤ m.area) : 0 < g.areas.sum := by
  obtain ⟨m, ms, hm⟩ := List.exists_cons_of_ne_nil h
  have := hpos m (by rw [hm]; simp)
  rw [Gathered.areas, hm, List.map_cons, List.sum_cons]
  omega

/-- What the members get of a band in CONSUMPTION and in AREA is the band's energy. -/
theorem shares_add_areaShares {g : Gathered} (h : g.members ≠ []) (hshare : g.fixedShare ≤ 1000) (hpos : ∀ m ∈ g.members, 1 ≤ m.area) (b : BandNo) :
    ((List.range g.members.length).map fun i => (consumptionParts g (fixedParts g)).shares[b].getD i 0 +
      (areaShares g (consumptionParts g (fixedParts g)))[b].getD i 0).sum = g.p[b] := by
  obtain ⟨k, hk⟩ : ∃ k, k = consumptionParts g (fixedParts g) := ⟨_, rfl⟩
  have harea : (areaShares g k)[b] = apportion k.g[b] g.areas := (congrArg (fun v : Bands (List Nat) => v[b]) (if_neg h)).trans (bandwise_get _ b)
  have hlen : (apportion k.g[b] g.areas).length = g.members.length := by rw [length_apportion, Gathered.areas, List.length_map]
  rw [← hk, harea]
  by_cases hno : g.noUnits = true
  · obtain ⟨hshares, -, hg⟩ := consumptionParts_noUnits (f := fixedParts g) h hno b
    rw [← hk] at hshares hg
    rw [sum_getD_add (by rw [hshares, List.length_replicate]) hlen, sum_apportion _ (Gathered.areas_pos h hpos), hshares, hg]
    simp
  · obtain ⟨hshares, hg⟩ := consumptionParts_units (f := fixedParts g) h hno b
    rw [← hk] at hshares hg
    have hlen' : k.shares[b].length = g.members.length := by
      have := congrArg List.length hshares
      rw [length_apportion, Gathered.length_weights, List.length_append] at this
      simpa using this
    have hsum := congrArg List.sum hshares
    rw [sum_apportion _ (Gathered.weights_pos hno), List.sum_append, List.sum_singleton] at hsum
    rw [sum_getD_add hlen' hlen, sum_apportion _ (Gathered.areas_pos h hpos), hg]
    have := fixedParts_add b hshare
    omega

/-- Settles O50. -/
theorem nothingLost : Obligations.NothingLost := by
  unfold Obligations.NothingLost
  intro s t u v w z g f k a b hrun hst hz hg hmembers hshare hpos ht hu hv hw hf hk ha
  obtain rfl := Host.Outcome.next.inj (ht.symm.trans (exec_fixed hrun hz hg hst))
  obtain rfl := Host.Outcome.next.inj (hu.symm.trans (exec_consumption hrun rfl hg rfl rfl))
  obtain rfl := Host.Outcome.next.inj (hv.symm.trans (exec_area hrun rfl hg rfl rfl))
  obtain rfl := Host.Outcome.next.inj (hw.symm.trans (exec_standing hrun rfl hg rfl))
  obtain rfl := Option.some.inj hk
  obtain rfl := Option.some.inj ha
  refine ⟨shares_add_areaShares hmembers hshare hpos b, fun charge shares hcharge hstanding => ?_⟩
  have hshares : standingShares g = some (apportion charge g.areas) := by
    rw [standingShares, hcharge]
    exact congrArg some (if_neg hmembers)
  obtain rfl := Option.some.inj (hshares.symm.trans hstanding)
  exact sum_apportion _ (Gathered.areas_pos hmembers hpos)

end Sys2Proof.Machine

/-! SUPPORT. Postings to a ledger: two postings at the same prices are one posting of their sum (R36, R37, R49 to R51). -/

namespace Sys2Proof.Machine

theorem satAdd_satAdd (limit a b c : Nat) : satAdd limit (satAdd limit a b) c = satAdd limit a (b + c) := by
  simp only [satAdd_eq_min]
  omega

/-- Two additions carry a value beyond its limit when their sum does. -/
theorem overflows_or (limit a b c : Nat) : (overflows limit a b || overflows limit (satAdd limit a b) c) = overflows limit a (b + c) := by
  simp only [overflows, satAdd_eq_min, ← Bool.decide_or]
  exact decide_eq_decide.2 (by omega)

/-! ### The sum of two postings -/

/-- The amounts of two postings added; mode and prices are those of the first. -/
def Posting.add (p q : Posting) : Posting := ⟨p.mode, p.prices, bandwise fun b => p.energy[b] + q.energy[b], p.standing + q.standing⟩

theorem Posting.add_energy (p q : Posting) (b : BandNo) : (p.add q).energy[b] = p.energy[b] + q.energy[b] := bandwise_get _ b

theorem Posting.add_total (p q : Posting) : (p.add q).energy.total = p.energy.total + q.energy.total := by
  refine (bandwise_total _).trans ?_
  show p.energy[(0 : BandNo)] + q.energy[(0 : BandNo)] + (p.energy[(1 : BandNo)] + q.energy[(1 : BandNo)]) +
    (p.energy[(2 : BandNo)] + q.energy[(2 : BandNo)]) + (p.energy[(3 : BandNo)] + q.energy[(3 : BandNo)]) =
    p.energy[(0 : BandNo)] + p.energy[(1 : BandNo)] + p.energy[(2 : BandNo)] + p.energy[(3 : BandNo)] +
    (q.energy[(0 : BandNo)] + q.energy[(1 : BandNo)] + q.energy[(2 : BandNo)] + q.energy[(3 : BandNo)])
  omega

theorem Posting.add_cost {p q : Posting} (h : q.prices = p.prices) (b : BandNo) : (p.add q).cost b = p.cost b + q.cost b := by
  unfold Posting.cost
  rw [Posting.add_energy, h, Nat.add_mul]
  rfl

/-! ### What a posting makes of a ledger -/

section
variable (p : Posting) (l : Ledger)

theorem Ledger.post_energy (b : BandNo) :
    ((l.post p).unbilled.energy.get p.mode)[b] = satAdd lim40 (l.unbilled.energy.get p.mode)[b] p.energy[b] := by
  unfold Ledger.post
  rw [ByMode.get_put_same]
  exact bandwise_get _ b

theorem Ledger.post_cost (b : BandNo) :
    ((l.post p).unbilled.cost.get p.mode)[b] = satAdd lim64 (l.unbilled.cost.get p.mode)[b] (p.cost b) := by
  unfold Ledger.post
  rw [ByMode.get_put_same]
  exact bandwise_get _ b

theorem Ledger.post_lifetime : (l.post p).lifetime.energy.get p.mode = satAdd lim48 (l.lifetime.energy.get p.mode) p.energy.total :=
  ByMode.get_put_same ..

theorem Ledger.post_lifetimeSaturated : (l.post p).lifetime.saturated.get p.mode =
    (l.lifetime.saturated.get p.mode || overflows lim48 (l.lifetime.energy.get p.mode) p.energy.total) := ByMode.get_put_same ..

end

theorem Ledger.saturates_iff (p : Posting) (l : Ledger) : l.saturates p = true ↔
    (∃ b : BandNo, overflows lim40 (l.unbilled.energy.get p.mode)[b] p.energy[b] = true ∨
      overflows lim64 (l.unbilled.cost.get p.mode)[b] (p.cost b) = true) ∨
    overflows lim64 l.unbilled.standing p.standing = true ∨ overflows lim48 (l.lifetime.energy.get p.mode) p.energy.total = true := by
  rw [Ledger.saturates, Bool.or_eq_true, Bool.or_eq_true, List.any_eq_true, or_assoc]
  refine or_congr_left (exists_congr fun b => ?_)
  rw [and_iff_right (mem_allBands b), Bool.or_eq_true]

theorem ByMode.put_put {α : Type} (v : ByMode α) (m : Mode) (x y : α) : (v.put m x).put m y = v.put m y := by cases m <;> rfl

theorem bandwise_congr {α : Type} {f h : BandNo → α} (hfh : ∀ b, f b = h b) : bandwise f = bandwise h := congrArg bandwise (funext hfh)

section
variable {p q : Posting} (hm : q.mode = p.mode) (hp : q.prices = p.prices) (l : Ledger)
include hm hp

theorem Ledger.saturates_add : (l.saturates p || (l.post p).saturates q) = l.saturates (p.add q) := by
  have hor (limit a b c : Nat) : overflows limit a (b + c) = true ↔ overflows limit a b = true ∨ overflows limit (satAdd limit a b) c = true := by
    rw [← overflows_or, Bool.or_eq_true]
  have hstanding : (l.post p).unbilled.standing = satAdd lim64 l.unbilled.standing p.standing := rfl
  have hsum : (p.add q).standing = p.standing + q.standing := rfl
  rw [Bool.eq_iff_iff, Bool.or_eq_true, Ledger.saturates_iff, Ledger.saturates_iff, Ledger.saturates_iff, hm, show (p.add q).mode = p.mode from rfl]
  simp only [Ledger.post_energy, Ledger.post_cost, Ledger.post_lifetime, hstanding, hsum, Posting.add_energy, Posting.add_cost hp, Posting.add_total, hor,
    exists_or]
  tauto

omit hm hp in
theorem Ledger.post_eq {mode : Mode} (h : q.mode = mode) : l.post q =
    ⟨⟨l.unbilled.energy.put mode (bandwise fun b => satAdd lim40 (l.unbilled.energy.get mode)[b] q.energy[b]),
        l.unbilled.cost.put mode (bandwise fun b => satAdd lim64 (l.unbilled.cost.get mode)[b] (q.cost b)),
        satAdd lim64 l.unbilled.standing q.standing, l.unbilled.count, l.unbilled.estimated, l.unbilled.saturated || l.saturates q⟩,
      ⟨l.lifetime.energy.put mode (satAdd lim48 (l.lifetime.energy.get mode) q.energy.total),
        l.lifetime.saturated.put mode (l.lifetime.saturated.get mode || overflows lim48 (l.lifetime.energy.get mode) q.energy.total)⟩,
      l.number, l.last⟩ := by
  subst h
  rfl

/-- Two postings at the same prices are one posting of their sum. -/
theorem Ledger.post_post : (l.post p).post q = l.post (p.add q) := by
  have hsaturates := Ledger.saturates_add hm hp l
  have henergy : (bandwise fun b => satAdd lim40 ((l.post p).unbilled.energy.get p.mode)[b] q.energy[b]) =
      bandwise fun b => satAdd lim40 (l.unbilled.energy.get p.mode)[b] (p.add q).energy[b] :=
    bandwise_congr fun b => by rw [Ledger.post_energy, satAdd_satAdd, Posting.add_energy]
  have hcost : (bandwise fun b => satAdd lim64 ((l.post p).unbilled.cost.get p.mode)[b] (q.cost b)) =
      bandwise fun b => satAdd lim64 (l.unbilled.cost.get p.mode)[b] ((p.add q).cost b) :=
    bandwise_congr fun b => by rw [Ledger.post_cost, satAdd_satAdd, Posting.add_cost hp]
  have hstanding : satAdd lim64 (l.post p).unbilled.standing q.standing = satAdd lim64 l.unbilled.standing (p.add q).standing := satAdd_satAdd ..
  have hflag : ((l.post p).unbilled.saturated || (l.post p).saturates q) = (l.unbilled.saturated || l.saturates (p.add q)) := by
    rw [← hsaturates, ← Bool.or_assoc]
    rfl
  have hlifetime : satAdd lim48 ((l.post p).lifetime.energy.get p.mode) q.energy.total =
      satAdd lim48 (l.lifetime.energy.get p.mode) (p.add q).energy.total := by
    rw [Ledger.post_lifetime, satAdd_satAdd, Posting.add_total]
  have hlifeflag : ((l.post p).lifetime.saturated.get p.mode || overflows lim48 ((l.post p).lifetime.energy.get p.mode) q.energy.total) =
      (l.lifetime.saturated.get p.mode || overflows lim48 (l.lifetime.energy.get p.mode) (p.add q).energy.total) := by
    rw [Ledger.post_lifetime, Ledger.post_lifetimeSaturated, Posting.add_total, ← overflows_or, Bool.or_assoc]
  rw [Ledger.post_eq _ hm, henergy, hcost, hstanding, hflag, hlifetime, hlifeflag, Ledger.post_eq l (q := p.add q) (mode := p.mode) rfl]
  simp only [Ledger.post, ByMode.put_put]

end

end Sys2Proof.Machine

/-! SUPPORT. The postings of one settlement: to the ledgers of OPEN members, and to the house for the others (R36, R37, R50). -/

namespace Sys2Proof.Machine

/-! ### Postings to the house -/

/-- The house's ledger and the item that takes the energy, after a posting to them (R37, R50). -/
def houseStep (h : Ledger × Nat) (p : Posting) : Ledger × Nat :=
  ((h.1.post p).markSaturated (overflows lim48 h.2 p.energy.total), satAdd lim48 h.2 p.energy.total)

/-- The posting carries a total of the house's ledger, or the item, beyond its limit. -/
def houseSpills (h : Ledger × Nat) (p : Posting) : Bool := h.1.saturates p || overflows lim48 h.2 p.energy.total

/-- One of the postings, one after the other, carries a total beyond its limit. -/
def housesSpill (h : Ledger × Nat) : List Posting → Bool
  | [] => false
  | p :: ps => houseSpills h p || housesSpill (houseStep h p) ps

theorem Ledger.post_markSaturated (p : Posting) (on : Bool) (l : Ledger) : (l.markSaturated on).post p = (l.post p).markSaturated on := by
  have hflag : (l.unbilled.saturated || on || l.saturates p) = (l.unbilled.saturated || l.saturates p || on) := Bool.or_right_comm ..
  unfold Ledger.markSaturated
  rw [show (l.post p).unbilled.saturated = (l.unbilled.saturated || l.saturates p) from rfl, ← hflag]
  rfl

theorem Ledger.markSaturated_markSaturated (a b : Bool) (l : Ledger) : (l.markSaturated a).markSaturated b = l.markSaturated (a || b) := by
  unfold Ledger.markSaturated
  rw [← Bool.or_assoc]

theorem Ledger.markSaturated_false (l : Ledger) : l.markSaturated false = l := by
  unfold Ledger.markSaturated
  rw [Bool.or_false]

section
variable {p q : Posting} (hm : q.mode = p.mode) (hp : q.prices = p.prices) (h : Ledger × Nat)
include hm hp

theorem houseStep_houseStep : houseStep (houseStep h p) q = houseStep h (p.add q) := by
  unfold houseStep
  rw [Ledger.post_markSaturated, Ledger.post_post hm hp, Ledger.markSaturated_markSaturated, overflows_or, satAdd_satAdd, Posting.add_total]

theorem houseSpills_add : (houseSpills h p || houseSpills (houseStep h p) q) = houseSpills h (p.add q) := by
  have hledger : (houseStep h p).1.saturates q = (h.1.post p).saturates q := rfl
  have hitem : (houseStep h p).2 = satAdd lim48 h.2 p.energy.total := rfl
  unfold houseSpills
  rw [hledger, hitem, ← Ledger.saturates_add hm hp, Posting.add_total, ← overflows_or]
  ac_rfl

end

/-- Postings at the same prices, one after the other, are one posting of their sum. -/
theorem foldl_houseStep (ps : List Posting) (p : Posting) (h : Ledger × Nat) (hps : ∀ q ∈ ps, q.mode = p.mode ∧ q.prices = p.prices) :
    (p :: ps).foldl houseStep h = houseStep h (ps.foldl Posting.add p) ∧ housesSpill h (p :: ps) = houseSpills h (ps.foldl Posting.add p) := by
  induction ps generalizing p h with
  | nil => exact ⟨rfl, Bool.or_false _⟩
  | cons q ps ih =>
    obtain ⟨hm, hp⟩ := hps q List.mem_cons_self
    obtain ⟨hfold, hspill⟩ := ih (p.add q) h fun r hr => hps r (List.mem_cons_of_mem q hr)
    constructor
    · rw [List.foldl_cons, List.foldl_cons, houseStep_houseStep hm hp]
      exact hfold
    · rw [housesSpill, housesSpill, ← Bool.or_assoc, houseSpills_add hm hp, houseStep_houseStep hm hp]
      exact hspill

theorem foldl_add_energy (ps : List Posting) (p : Posting) (b : BandNo) :
    (ps.foldl Posting.add p).energy[b] = p.energy[b] + (ps.map fun q => q.energy[b]).sum := by
  induction ps generalizing p with
  | nil => rfl
  | cons q ps ih => rw [List.foldl_cons, ih, Posting.add_energy, List.map_cons, List.sum_cons, Nat.add_assoc]

theorem foldl_add_standing (ps : List Posting) (p : Posting) : (ps.foldl Posting.add p).standing = p.standing + (ps.map (·.standing)).sum := by
  induction ps generalizing p with
  | nil => rfl
  | cons q ps ih => rw [List.foldl_cons, ih, List.map_cons, List.sum_cons, show (p.add q).standing = p.standing + q.standing from rfl, Nat.add_assoc]

theorem foldl_add_mode (ps : List Posting) (p : Posting) : (ps.foldl Posting.add p).mode = p.mode ∧ (ps.foldl Posting.add p).prices = p.prices := by
  induction ps generalizing p with
  | nil => exact ⟨rfl, rfl⟩
  | cons q ps ih => exact ih (p.add q)

/-! ### The postings of the members -/

section
variable (o : AccountNo → Bool) (g : Gathered) (posting : Nat → Posting)

/-- The postings of the members whose accounts are not OPEN, in order. -/
def vacantPostings (l : List (Nat × Snapshot)) : List Posting := (l.filter fun im => !o im.2.account).map fun im => posting im.1

/-- What the postings of a list of members make of the state and of the mark. -/
structure MembersPosted (l : List (Nat × Snapshot)) (x y : State × Bool) : Prop where
  own : ∀ im ∈ l, o im.2.account = true → y.1.ledgers[im.2.account] =
    (x.1.ledgers[im.2.account].post (posting im.1)).countSettlement (decide (0 < g.estimated)) g.inputSaturated
  others : ∀ a : AccountNo, a ≠ 0 → (∀ im ∈ l, im.2.account = a → ¬o a = true) → y.1.ledgers[a] = x.1.ledgers[a]
  house : (y.1.ledgers[(0 : AccountNo)], y.1.house.fromVacancies) =
    (vacantPostings o posting l).foldl houseStep (x.1.ledgers[(0 : AccountNo)], x.1.house.fromVacancies)
  memberless : y.1.house.fromMemberless = x.1.house.fromMemberless
  mark : y.2 = true ↔ x.2 = true ∨ (∃ im ∈ l, o im.2.account = true ∧ x.1.ledgers[im.2.account].saturates (posting im.1) = true) ∨
    housesSpill (x.1.ledgers[(0 : AccountNo)], x.1.house.fromVacancies) (vacantPostings o posting l) = true

variable {o g posting}

theorem State.postOwn_ledger (x : State × Bool) (a b : AccountNo) (p : Posting) : (State.postOwn x a p g).1.ledgers[b] =
    if a = b then (x.1.ledgers[b].post p).countSettlement (decide (0 < g.estimated)) g.inputSaturated else x.1.ledgers[b] := upd_get ..

theorem State.postVacancy_ledger (x : State × Bool) (b : AccountNo) (p : Posting) : (State.postVacancy x p).1.ledgers[b] =
    if 0 = b then (x.1.ledgers[b].post p).markSaturated (overflows lim48 x.1.house.fromVacancies p.energy.total) else x.1.ledgers[b] := upd_get ..

theorem vacantPostings_cons_open {im : Nat × Snapshot} (l : List (Nat × Snapshot)) (h : o im.2.account = true) :
    vacantPostings o posting (im :: l) = vacantPostings o posting l := by
  unfold vacantPostings
  rw [List.filter_cons_of_neg (by simp [h])]

theorem vacantPostings_cons_vacant {im : Nat × Snapshot} (l : List (Nat × Snapshot)) (h : ¬o im.2.account = true) :
    vacantPostings o posting (im :: l) = posting im.1 :: vacantPostings o posting l := by
  unfold vacantPostings
  rw [List.filter_cons_of_pos (by simpa using h), List.map_cons]

/-- The posting of one more member first. -/
theorem MembersPosted.cons {im : Nat × Snapshot} {l : List (Nat × Snapshot)} {x y : State × Bool} (hzero : im.2.account ≠ 0)
    (hdistinct : ∀ jm ∈ l, im.2.account ≠ jm.2.account ∧ jm.2.account ≠ 0)
    (h : MembersPosted o g posting l (State.postMember o g posting x im) y) : MembersPosted o g posting (im :: l) x y := by
  by_cases ho : o im.2.account = true
  · rw [State.postMember, if_pos ho] at h
    have hother (a : AccountNo) (ha : im.2.account ≠ a) : (State.postOwn x im.2.account (posting im.1) g).1.ledgers[a] = x.1.ledgers[a] := by
      rw [State.postOwn_ledger, if_neg ha]
    have hself := State.postOwn_ledger (g := g) x im.2.account im.2.account (posting im.1)
    rw [if_pos rfl] at hself
    have hhouse := hother 0 hzero
    have hmark : (State.postOwn x im.2.account (posting im.1) g).2 = (x.2 || x.1.ledgers[im.2.account].saturates (posting im.1)) := rfl
    obtain ⟨hown, hothers, hfold, hmemberless, hflag⟩ := h
    refine ⟨?own, fun a ha hno => ?others, ?house, hmemberless, ?mark⟩
    case own =>
      refine List.forall_mem_cons.2 ⟨fun _ => ?_, fun jm hjm hjo => ?_⟩
      · exact (hothers _ hzero fun jm hjm he => absurd he.symm (hdistinct jm hjm).1).trans hself
      · rw [hown jm hjm hjo, hother _ (hdistinct jm hjm).1]
    case others =>
      have hne : im.2.account ≠ a := fun he => hno im List.mem_cons_self he (he ▸ ho)
      exact (hothers a ha fun jm hjm => hno jm (List.mem_cons_of_mem _ hjm)).trans (hother a hne)
    case house =>
      rw [vacantPostings_cons_open l ho, hfold, hhouse]
      rfl
    case mark =>
      have hlater : (∃ jm ∈ l, o jm.2.account = true ∧ (State.postOwn x im.2.account (posting im.1) g).1.ledgers[jm.2.account].saturates (posting jm.1) = true) ↔
          ∃ jm ∈ l, o jm.2.account = true ∧ x.1.ledgers[jm.2.account].saturates (posting jm.1) = true :=
        exists_congr fun jm => and_congr_right fun hjm => by rw [hother _ (hdistinct jm hjm).1]
      have hitem : (State.postOwn x im.2.account (posting im.1) g).1.house.fromVacancies = x.1.house.fromVacancies := rfl
      rw [vacantPostings_cons_open l ho, hflag, hlater, hhouse, hitem, hmark, Bool.or_eq_true, List.exists_mem_cons_iff,
        and_iff_right ho, or_assoc, or_assoc]
  · rw [State.postMember, if_neg ho] at h
    have hother (a : AccountNo) (ha : a ≠ 0) : (State.postVacancy x (posting im.1)).1.ledgers[a] = x.1.ledgers[a] := by
      rw [State.postVacancy_ledger, if_neg ha.symm]
    have hstep : ((State.postVacancy x (posting im.1)).1.ledgers[(0 : AccountNo)], (State.postVacancy x (posting im.1)).1.house.fromVacancies) =
        houseStep (x.1.ledgers[(0 : AccountNo)], x.1.house.fromVacancies) (posting im.1) := by
      rw [State.postVacancy_ledger, if_pos rfl]
      rfl
    have hmark : (State.postVacancy x (posting im.1)).2 = (x.2 || houseSpills (x.1.ledgers[(0 : AccountNo)], x.1.house.fromVacancies) (posting im.1)) :=
      Bool.or_assoc ..
    obtain ⟨hown, hothers, hfold, hmemberless, hflag⟩ := h
    rw [hstep] at hfold hflag
    refine ⟨?own', fun a ha hno => ?others', ?house', hmemberless, ?mark'⟩
    case own' =>
      refine List.forall_mem_cons.2 ⟨fun hopen => absurd hopen ho, fun jm hjm hjo => ?_⟩
      rw [hown jm hjm hjo, hother _ (hdistinct jm hjm).2]
    case others' => exact (hothers a ha fun jm hjm => hno jm (List.mem_cons_of_mem _ hjm)).trans (hother a ha)
    case house' =>
      rw [vacantPostings_cons_vacant l ho]
      exact hfold
    case mark' =>
      have hlater : (∃ jm ∈ l, o jm.2.account = true ∧ (State.postVacancy x (posting im.1)).1.ledgers[jm.2.account].saturates (posting jm.1) = true) ↔
          ∃ jm ∈ l, o jm.2.account = true ∧ x.1.ledgers[jm.2.account].saturates (posting jm.1) = true :=
        exists_congr fun jm => and_congr_right fun hjm => by rw [hother _ (hdistinct jm hjm).2]
      rw [vacantPostings_cons_vacant l ho, hflag, hlater, hmark, Bool.or_eq_true, List.exists_mem_cons_iff, housesSpill, Bool.or_eq_true,
        or_iff_right (fun h : _ ∧ _ => ho h.1), or_assoc]
      exact or_congr_right or_left_comm

/-- The postings of members with accounts of their own, none of them the house's. -/
theorem membersPosted_foldl (l : List (Nat × Snapshot)) (x : State × Bool) (hzero : ∀ im ∈ l, im.2.account ≠ 0)
    (hdistinct : l.Pairwise fun a b => a.2.account ≠ b.2.account) :
    MembersPosted o g posting l x (l.foldl (State.postMember o g posting) x) := by
  induction l generalizing x with
  | nil => exact ⟨nofun, fun _ _ _ => rfl, rfl, rfl, by simp [vacantPostings, housesSpill]⟩
  | cons im l ih =>
    obtain ⟨hhead, htail⟩ := List.pairwise_cons.1 hdistinct
    exact .cons (hzero im List.mem_cons_self) (fun jm hjm => ⟨hhead jm hjm, hzero jm (List.mem_cons_of_mem _ hjm)⟩)
      (ih (State.postMember o g posting x im) (fun jm hjm => hzero jm (List.mem_cons_of_mem _ hjm)) htail)

end

end Sys2Proof.Machine

/-! PROOFS. POST: what reaches the ledgers, the itemisation and the settlement record (R35 to R40). -/

namespace Sys2Proof.Machine

/-! ### A ledger after its part of a settlement -/

/-- A ledger after a posting, its count and its flags (R36 to R39, R50). -/
def Ledger.settled (l : Ledger) (p : Posting) (spill : Bool) (g : Gathered) : Ledger :=
  ((l.post p).markSaturated spill).countSettlement (decide (0 < g.estimated)) g.inputSaturated

/-- The posting holds these energies, at these prices, and this standing amount, for this mode. -/
def Posting.holds (p : Posting) (m : Mode) (e price : BandNo → Nat) (st : Nat) : Prop :=
  p.mode = m ∧ (∀ b : BandNo, p.energy[b] = e b) ∧ (∀ b : BandNo, p.prices[b] = price b) ∧ p.standing = st

section
variable {p : Posting} {m : Mode} {e price : BandNo → Nat} {st : Nat} (h : p.holds m e price st)
include h

theorem Posting.holds.cost (b : BandNo) : p.cost b = e b * price b := by
  obtain ⟨-, he, hp, -⟩ := h
  rw [← he, ← hp]
  rfl

theorem Posting.holds.total : p.energy.total = e 0 + e 1 + e 2 + e 3 := by
  obtain ⟨-, he, -, -⟩ := h
  rw [← he, ← he, ← he, ← he]
  rfl

theorem Ledger.saturates_iff_goesBeyond (l : Ledger) : l.saturates p = true ↔ goesBeyond l m e price st := by
  have htotal := h.total
  have hcost := h.cost
  obtain ⟨rfl, he, -, rfl⟩ := h
  rw [Ledger.saturates_iff]
  simp only [overflows_iff, htotal, hcost, he]
  rfl

/-- What a ledger holds after its part of a settlement. -/
theorem Ledger.settled_says (l : Ledger) (spill : Bool) (g : Gathered) :
    (∀ b : BandNo, ((l.settled p spill g).unbilled.energy.get m)[b] = min ((l.unbilled.energy.get m)[b] + e b) (2 ^ 40 - 1) ∧
      ((l.settled p spill g).unbilled.cost.get m)[b] = min ((l.unbilled.cost.get m)[b] + e b * price b) (2 ^ 64 - 1)) ∧
    (∀ x, x ≠ m → (l.settled p spill g).unbilled.energy.get x = l.unbilled.energy.get x ∧
      (l.settled p spill g).unbilled.cost.get x = l.unbilled.cost.get x ∧ (l.settled p spill g).lifetime.energy.get x = l.lifetime.energy.get x ∧
      (l.settled p spill g).lifetime.saturated.get x = l.lifetime.saturated.get x) ∧
    (l.settled p spill g).unbilled.standing = min (l.unbilled.standing + st) (2 ^ 64 - 1) ∧
    (l.settled p spill g).unbilled.count = min (l.unbilled.count + 1) 65535 ∧
    ((l.settled p spill g).unbilled.estimated = true ↔ l.unbilled.estimated = true ∨ 0 < g.estimated) ∧
    ((l.settled p spill g).unbilled.saturated = true ↔
      l.unbilled.saturated = true ∨ g.inputSaturated = true ∨ goesBeyond l m e price st ∨ spill = true) ∧
    (l.settled p spill g).lifetime.energy.get m = min (l.lifetime.energy.get m + (e 0 + e 1 + e 2 + e 3)) (2 ^ 48 - 1) ∧
    ((l.settled p spill g).lifetime.saturated.get m = true ↔
      l.lifetime.saturated.get m = true ∨ 2 ^ 48 - 1 < l.lifetime.energy.get m + (e 0 + e 1 + e 2 + e 3)) ∧
    (l.settled p spill g).number = l.number ∧ (l.settled p spill g).last = l.last := by
  have htotal := h.total
  have hcost := h.cost
  have hbeyond := Ledger.saturates_iff_goesBeyond h l
  obtain ⟨rfl, he, -, rfl⟩ := h
  refine ⟨fun b => ⟨?_, ?_⟩, fun x hx => ⟨?_, ?_, ?_, ?_⟩, ?_, ?_, ?_, ?_, ?_, ?_, rfl, rfl⟩
  · exact (Ledger.post_energy p l b).trans ((satAdd_eq_min ..).trans (by rw [he]))
  · exact (Ledger.post_cost p l b).trans ((satAdd_eq_min ..).trans (by rw [hcost]))
  · exact ByMode.get_put_other _ _ hx.symm
  · exact ByMode.get_put_other _ _ hx.symm
  · exact ByMode.get_put_other _ _ hx.symm
  · exact ByMode.get_put_other _ _ hx.symm
  · exact satAdd_eq_min ..
  · exact satAdd_eq_min ..
  · exact (Bool.or_eq_true ..).to_iff.trans (or_congr_right decide_eq_true_iff)
  · have hflag : (l.settled p spill g).unbilled.saturated = (l.unbilled.saturated || l.saturates p || spill || g.inputSaturated) := rfl
    rw [hflag, Bool.or_eq_true, Bool.or_eq_true, Bool.or_eq_true, hbeyond, or_assoc, or_assoc, or_comm (a := spill = true), or_left_comm (b := g.inputSaturated = true)]
  · exact (Ledger.post_lifetime p l).trans ((satAdd_eq_min ..).trans (by rw [htotal]))
  · refine (iff_of_eq (congrArg (· = true) (Ledger.post_lifetimeSaturated p l))).trans ?_
    rw [Bool.or_eq_true, overflows_iff, htotal]

end

/-! ### The members of a settlement, numbered -/

/-- The members with their places, in order. -/
def Gathered.numbered (g : Gathered) : List (Nat × Snapshot) := g.members.zipIdx.map fun mi => (mi.2, mi.1)

section
variable {g : Gathered}

theorem Gathered.mem_numbered {im : Nat × Snapshot} : im ∈ g.numbered ↔ g.members[im.1]? = some im.2 := by
  unfold Gathered.numbered
  rw [List.mem_map]
  constructor
  · rintro ⟨mi, hmi, rfl⟩
    exact List.mem_zipIdx_iff_getElem?.1 hmi
  · exact fun h => ⟨(im.2, im.1), List.mem_zipIdx_iff_getElem?.2 h, rfl⟩

theorem Gathered.numbered_pairwise {R : Snapshot → Snapshot → Prop} (h : g.members.Pairwise R) : g.numbered.Pairwise fun a b => R a.2 b.2 := by
  have hmap : g.numbered.map (·.2) = g.members := by
    unfold Gathered.numbered
    rw [List.map_map]
    exact List.zipIdx_map_fst 0 g.members
  rw [← hmap] at h
  exact List.pairwise_map.1 h

/-- A map over the members and their places, as one over the places. -/
theorem Gathered.numbered_map {α : Type} {h : Nat × Snapshot → α} {k : Nat → α} (hk : ∀ im ∈ g.numbered, h im = k im.1) :
    g.numbered.map h = (List.range g.members.length).map k := by
  refine (List.map_congr_left hk).trans ?_
  refine List.ext_getElem (by simp [Gathered.numbered]) fun i h1 h2 => ?_
  simp [Gathered.numbered]

variable {o : AccountNo → Bool} {posting : Nat → Posting} {vacant : Nat → Bool}

/-- What the vacant members' postings hold together. -/
theorem sum_vacantPostings (f : Posting → Nat) (hv : ∀ im ∈ g.numbered, vacant im.1 = true ↔ ¬o im.2.account = true) :
    ((vacantPostings o posting g.numbered).map f).sum = ((List.range g.members.length).map fun i => if vacant i then f (posting i) else 0).sum := by
  unfold vacantPostings
  rw [List.map_map, sum_map_filter]
  refine congrArg List.sum (Gathered.numbered_map fun im him => ?_)
  by_cases ho : o im.2.account = true
  · rw [if_neg (by simp [ho]), if_neg (mt (hv im him).1 (not_not.2 ho))]
  · rw [if_pos (by simpa using ho), if_pos ((hv im him).2 ho)]
    rfl

theorem vacantPostings_eq_nil (hv : ∀ im ∈ g.numbered, vacant im.1 = true ↔ ¬o im.2.account = true) (h : ∀ i, vacant i = false) :
    vacantPostings o posting g.numbered = [] := by
  unfold vacantPostings
  rw [List.map_eq_nil_iff, List.filter_eq_nil_iff]
  intro im him
  have := (hv im him).not.1 (by rw [h]; nofun)
  simpa using this

end

/-! ### The postings of a settlement, together (R36 to R39) -/

section
variable {s : State} {g : Gathered} {posting : Nat → Posting} {whole : Posting}

/-- Without members everything is posted to the house. -/
theorem State.postAll_memberless (h : g.members = []) :
    (∀ a : AccountNo, a ≠ 0 → (s.postAll g posting whole).1.ledgers[a] = s.ledgers[a]) ∧
    (s.postAll g posting whole).1.ledgers[(0 : AccountNo)] =
      s.ledgers[(0 : AccountNo)].settled whole (overflows lim48 s.house.fromMemberless whole.energy.total) g ∧
    (s.postAll g posting whole).1.house = { s.house with fromMemberless := satAdd lim48 s.house.fromMemberless whole.energy.total } ∧
    (s.postAll g posting whole).2 = houseSpills (s.ledgers[(0 : AccountNo)], s.house.fromMemberless) whole := by
  unfold State.postAll
  rw [if_pos h]
  refine ⟨fun a ha => ?_, ?_, rfl, ?_⟩
  · exact (upd_other _ _ ha.symm).trans (upd_other _ _ ha.symm)
  · exact (upd_same ..).trans (congrArg _ (upd_same ..))
  · exact (congrArg (· || _) (Bool.false_or _))

section
variable (h : g.members ≠ []) (hzero : ∀ m ∈ g.members, m.account ≠ 0) (hdistinct : g.members.Pairwise fun x y => x.account ≠ y.account)
include h hzero hdistinct

omit h in
/-- What the postings of the members make of the state, before the house's count. -/
theorem State.membersPosted : MembersPosted s.isOpen g posting g.numbered (s, false) (g.numbered.foldl (State.postMember s.isOpen g posting) (s, false)) :=
  membersPosted_foldl _ _ (fun _ him => hzero _ (List.mem_of_getElem? (Gathered.mem_numbered.1 him))) (Gathered.numbered_pairwise hdistinct)

omit hzero hdistinct in
theorem State.postAll_members : s.postAll g posting whole = if vacantPostings s.isOpen posting g.numbered = [] then
    g.numbered.foldl (State.postMember s.isOpen g posting) (s, false)
    else State.countHouse (g.numbered.foldl (State.postMember s.isOpen g posting) (s, false)) g := by
  have hall : (g.members.all fun m => s.isOpen m.account) = true ↔ vacantPostings s.isOpen posting g.numbered = [] := by
    unfold vacantPostings
    rw [List.all_eq_true, List.map_eq_nil_iff, List.filter_eq_nil_iff]
    constructor
    · intro hopen im him
      simpa using hopen _ (List.mem_of_getElem? (Gathered.mem_numbered.1 him))
    · intro hopen m hm
      obtain ⟨i, hi⟩ := List.getElem?_of_mem hm
      simpa using hopen (i, m) (Gathered.mem_numbered.2 hi)
  refine (if_neg h).trans ?_
  by_cases hv : vacantPostings s.isOpen posting g.numbered = []
  · exact (if_pos (hall.2 hv)).trans (if_pos hv).symm
  · exact (if_neg (mt hall.1 hv)).trans (if_neg hv).symm

/-- What the members' accounts and the mark hold, whether or not a posting reaches the house. -/
theorem State.postAll_own :
    (∀ (i : Nat) (m : Snapshot), g.members[i]? = some m → s.isOpen m.account = true →
      (s.postAll g posting whole).1.ledgers[m.account] = s.ledgers[m.account].settled (posting i) false g) ∧
    (∀ a : AccountNo, a ≠ 0 → (∀ m ∈ g.members, m.account = a → ¬s.isOpen a = true) → (s.postAll g posting whole).1.ledgers[a] = s.ledgers[a]) ∧
    ((s.postAll g posting whole).2 = true ↔
      (∃ (i : Nat) (m : Snapshot), g.members[i]? = some m ∧ s.isOpen m.account = true ∧ s.ledgers[m.account].saturates (posting i) = true) ∨
      housesSpill (s.ledgers[(0 : AccountNo)], s.house.fromVacancies) (vacantPostings s.isOpen posting g.numbered) = true) := by
  obtain ⟨hown, hothers, -, -, hmark⟩ := State.membersPosted (s := s) (posting := posting) hzero hdistinct
  have hledger (a : AccountNo) (ha : a ≠ 0) : (s.postAll g posting whole).1.ledgers[a] =
      (g.numbered.foldl (State.postMember s.isOpen g posting) (s, false)).1.ledgers[a] := by
    rw [State.postAll_members h]
    split
    · rfl
    · exact upd_other _ _ ha.symm
  have hflag : (s.postAll g posting whole).2 = (g.numbered.foldl (State.postMember s.isOpen g posting) (s, false)).2 := by
    rw [State.postAll_members h]
    split
    · rfl
    · rfl
  refine ⟨fun i m hm hopen => ?_, fun a ha hno => ?_, ?_⟩
  · rw [hledger _ (hzero m (List.mem_of_getElem? hm)), hown (i, m) (Gathered.mem_numbered.2 hm) hopen, Ledger.settled, Ledger.markSaturated_false]
  · rw [hledger _ ha]
    exact hothers a ha fun im him => hno im.2 (List.mem_of_getElem? (Gathered.mem_numbered.1 him))
  · rw [hflag, hmark, or_iff_right (by nofun)]
    refine or_congr_left ⟨fun ⟨im, him, ho, hs⟩ => ⟨im.1, im.2, Gathered.mem_numbered.1 him, ho, hs⟩,
      fun ⟨i, m, hm, ho, hs⟩ => ⟨(i, m), Gathered.mem_numbered.2 hm, ho, hs⟩⟩

/-- With every member OPEN nothing reaches the house. -/
theorem State.postAll_noVacancy (hv : vacantPostings s.isOpen posting g.numbered = []) :
    (s.postAll g posting whole).1.ledgers[(0 : AccountNo)] = s.ledgers[(0 : AccountNo)] ∧ (s.postAll g posting whole).1.house = s.house := by
  obtain ⟨-, -, hfold, hmemberless, -⟩ := State.membersPosted (s := s) (posting := posting) hzero hdistinct
  rw [State.postAll_members h, if_pos hv]
  rw [hv] at hfold
  obtain ⟨hledger, hitem⟩ := Prod.mk.inj hfold
  refine ⟨hledger, ?_⟩
  calc _ = (⟨(g.numbered.foldl (State.postMember s.isOpen g posting) (s, false)).1.house.fromVacancies,
        (g.numbered.foldl (State.postMember s.isOpen g posting) (s, false)).1.house.fromMemberless⟩ : House) := rfl
    _ = s.house := by rw [hitem, hmemberless]

/-- The vacant members' postings reach the house as one posting of their sum. -/
theorem State.postAll_vacancy {p whole' : Posting} {ps : List Posting} (hv : vacantPostings s.isOpen posting g.numbered = p :: ps)
    (hps : ∀ q ∈ ps, q.mode = p.mode ∧ q.prices = p.prices) (hw : whole' = ps.foldl Posting.add p) :
    (s.postAll g posting whole).1.ledgers[(0 : AccountNo)] =
      s.ledgers[(0 : AccountNo)].settled whole' (overflows lim48 s.house.fromVacancies whole'.energy.total) g ∧
    (s.postAll g posting whole).1.house = { s.house with fromVacancies := satAdd lim48 s.house.fromVacancies whole'.energy.total } ∧
    housesSpill (s.ledgers[(0 : AccountNo)], s.house.fromVacancies) (vacantPostings s.isOpen posting g.numbered) =
      houseSpills (s.ledgers[(0 : AccountNo)], s.house.fromVacancies) whole' := by
  obtain ⟨-, -, hfold, hmemberless, -⟩ := State.membersPosted (s := s) (posting := posting) hzero hdistinct
  obtain ⟨hsum, hspill⟩ := foldl_houseStep ps p (s.ledgers[(0 : AccountNo)], s.house.fromVacancies) hps
  rw [State.postAll_members h, if_neg (by rw [hv]; nofun), hv, hw]
  rw [hv, hsum] at hfold
  obtain ⟨hledger, hitem⟩ := Prod.mk.inj hfold
  refine ⟨?_, ?_, hspill⟩
  · exact (upd_same ..).trans (congrArg _ hledger)
  · calc _ = (⟨(g.numbered.foldl (State.postMember s.isOpen g posting) (s, false)).1.house.fromVacancies,
          (g.numbered.foldl (State.postMember s.isOpen g posting) (s, false)).1.house.fromMemberless⟩ : House) := rfl
      _ = _ := by rw [hitem, hmemberless]

end

end

end Sys2Proof.Machine

/-! PROOFS. POST: what reaches the house, the marks and the record (R35 to R40). -/

namespace Sys2Proof.Machine

/-- The posting of the member in place `i` (R33, R35). -/
def State.memberPosting (s : State) (g : Gathered) (k : ConsumptionParts) (a : Bands (List Nat)) (i : Nat) : Posting :=
  ⟨g.mode, s.prices.get g.mode, memberEnergy k a i, memberStanding s.sen.scratch.standing i⟩

/-- The posting of a zone without members (R37). -/
def State.wholePosting (s : State) (g : Gathered) : Posting := ⟨g.mode, s.prices.get g.mode, g.p, g.standing.getD 0⟩

/-- The postings of POST, with the mark that an addition saturated. -/
def State.posted (s : State) (g : Gathered) (k : ConsumptionParts) (a : Bands (List Nat)) : State × Bool :=
  s.postAll g (s.memberPosting g k a) (s.wholePosting g)

/-- The amounts of POST by name: each member's energies and standing share, the prices, the members that are not OPEN, and what reaches the house. -/
structure PostAmounts (s : State) (g : Gathered) (k : ConsumptionParts) (a : Bands (List Nat)) (e : Nat → BandNo → Nat) (st : Nat → Nat)
    (price : BandNo → Nat) (vacant : Nat → Bool) (hb : BandNo → Nat) (total hs item : Nat) : Prop where
  ordered : g.members.Pairwise fun x y => x.account < y.account
  nonzero : ∀ m ∈ g.members, m.account ≠ 0
  energy_eq : ∀ i b, e i b = k.shares[b].getD i 0 + a[b].getD i 0
  standing_eq : ∀ i, st i = (s.sen.scratch.standing.getD []).getD i 0
  price_eq : ∀ b : BandNo, price b = (s.prices.get g.mode)[b]
  vacant_eq : ∀ i, vacant i = true ↔ ∃ m, g.members[i]? = some m ∧ s.accounts[m.account] ≠ .opened
  house_eq : ∀ b : BandNo, hb b = if g.members = [] then g.p[b] else ((List.range g.members.length).map fun i => if vacant i then e i b else 0).sum
  total_eq : total = hb 0 + hb 1 + hb 2 + hb 3
  houseStanding_eq : hs = if g.members = [] then g.standing.getD 0 else ((List.range g.members.length).map fun i => if vacant i then st i else 0).sum
  item_eq : item = if g.members = [] then s.house.fromMemberless else s.house.fromVacancies

/-- What reaches the house, as one posting, and what it makes of the house's ledger and the itemisation. -/
structure HousePosted (s : State) (g : Gathered) (x : State × Bool) (price hb : BandNo → Nat) (total hs item : Nat) : Prop where
  ledger : ∃ p : Posting, ∃ spill : Bool, p.holds g.mode hb price hs ∧ (spill = true ↔ 2 ^ 48 - 1 < item + total) ∧
    x.1.ledgers[(0 : AccountNo)] = s.ledgers[(0 : AccountNo)].settled p spill g
  memberless : g.members = [] → x.1.house = { s.house with fromMemberless := min (item + total) (2 ^ 48 - 1) }
  vacancies : g.members ≠ [] → x.1.house = { s.house with fromVacancies := min (item + total) (2 ^ 48 - 1) }

theorem State.isOpen_iff (s : State) (a : AccountNo) : s.isOpen a = true ↔ s.accounts[a] = .opened := beq_iff_eq

section
variable {s : State} {g : Gathered} {k : ConsumptionParts} {a : Bands (List Nat)} {e : Nat → BandNo → Nat} {st : Nat → Nat} {price : BandNo → Nat}
  {vacant : Nat → Bool} {hb : BandNo → Nat} {total hs item : Nat} (h : PostAmounts s g k a e st price vacant hb total hs item)
include h

theorem PostAmounts.distinct : g.members.Pairwise fun x y => x.account ≠ y.account := h.ordered.imp fun hlt => Fin.ne_of_lt hlt

theorem PostAmounts.member_holds (i : Nat) : (s.memberPosting g k a i).holds g.mode (e i) price (st i) :=
  ⟨rfl, fun b => (bandwise_get _ b).trans (h.energy_eq i b).symm, fun b => (h.price_eq b).symm, (h.standing_eq i).symm⟩

theorem PostAmounts.vacant_iff : ∀ im ∈ g.numbered, vacant im.1 = true ↔ ¬s.isOpen im.2.account = true := by
  intro im him
  have hm := Gathered.mem_numbered.1 him
  rw [h.vacant_eq, State.isOpen_iff]
  exact ⟨fun ⟨m, hm', ho⟩ => Option.some.inj (hm.symm.trans hm') ▸ ho, fun ho => ⟨im.2, hm, ho⟩⟩

/-- Some posting reaches the house from the members when one of them is not OPEN. -/
theorem PostAmounts.vacantPostings_eq_nil_iff : vacantPostings s.isOpen (s.memberPosting g k a) g.numbered = [] ↔ ∀ i, vacant i = false := by
  refine ⟨fun hnil i => Bool.eq_false_iff.2 fun hi => ?_, fun hno => vacantPostings_eq_nil h.vacant_iff hno⟩
  obtain ⟨m, hm, -⟩ := (h.vacant_eq i).1 hi
  have him : (i, m) ∈ g.numbered := Gathered.mem_numbered.2 hm
  unfold vacantPostings at hnil
  rw [List.map_eq_nil_iff, List.filter_eq_nil_iff] at hnil
  have := hnil (i, m) him
  exact (h.vacant_iff (i, m) him).1 hi (by simpa using this)

/-- POST of a zone without members. -/
theorem PostAmounts.posted_memberless (hnil : g.members = []) : HousePosted s g (s.posted g k a) price hb total hs item ∧
    ((s.posted g k a).2 = true ↔ goesBeyond s.ledgers[(0 : AccountNo)] g.mode hb price hs ∨ 2 ^ 48 - 1 < item + total) ∧
    ∀ b : AccountNo, b ≠ 0 → (s.posted g k a).1.ledgers[b] = s.ledgers[b] := by
  obtain ⟨hothers, hledger, hhouse, hmark⟩ := State.postAll_memberless (s := s) (posting := s.memberPosting g k a) (whole := s.wholePosting g) hnil
  have hholds : (s.wholePosting g).holds g.mode hb price hs := by
    refine ⟨rfl, fun b => ?_, fun b => (h.price_eq b).symm, ?_⟩
    · rw [h.house_eq, if_pos hnil]
      rfl
    · rw [h.houseStanding_eq, if_pos hnil]
      rfl
  have hitem : item = s.house.fromMemberless := h.item_eq.trans (if_pos hnil)
  have htotal : (s.wholePosting g).energy.total = total := hholds.total.trans h.total_eq.symm
  rw [htotal, ← hitem] at hledger hhouse
  rw [satAdd_eq_min] at hhouse
  refine ⟨⟨⟨_, _, hholds, overflows_iff .., hledger⟩, fun _ => hhouse, fun hne => absurd hnil hne⟩, ?_, hothers⟩
  rw [← Ledger.saturates_iff_goesBeyond hholds]
  refine (iff_of_eq (congrArg (· = true) hmark)).trans ?_
  rw [houseSpills, Bool.or_eq_true, htotal, ← hitem, overflows_iff]

section
variable (hne : g.members ≠ [])
include hne

/-- The postings of vacant members, as one posting. -/
theorem PostAmounts.vacancy_holds {p : Posting} {ps : List Posting} (hv : vacantPostings s.isOpen (s.memberPosting g k a) g.numbered = p :: ps) :
    (∀ q ∈ ps, q.mode = p.mode ∧ q.prices = p.prices) ∧ (ps.foldl Posting.add p).holds g.mode hb price hs := by
  have hall : ∀ q ∈ p :: ps, q.mode = g.mode ∧ q.prices = s.prices.get g.mode := by
    intro q hq
    rw [← hv] at hq
    obtain ⟨im, -, rfl⟩ := List.mem_map.1 hq
    exact ⟨rfl, rfl⟩
  obtain ⟨hpm, hpp⟩ := hall p List.mem_cons_self
  obtain ⟨hmode, hprices⟩ := foldl_add_mode ps p
  have hsum (f : Posting → Nat) : f p + (ps.map f).sum =
      ((List.range g.members.length).map fun i => if vacant i then f (s.memberPosting g k a i) else 0).sum := by
    rw [← sum_vacantPostings f h.vacant_iff, hv, List.map_cons, List.sum_cons]
  refine ⟨fun q hq => ?_, hmode.trans hpm, fun b => ?_, fun b => ?_, ?_⟩
  · obtain ⟨hm, hp⟩ := hall q (List.mem_cons_of_mem _ hq)
    exact ⟨hm.trans hpm.symm, hp.trans hpp.symm⟩
  · rw [foldl_add_energy, hsum fun q => q.energy[b], h.house_eq, if_neg hne]
    simp only [(h.member_holds _).2.1]
  · rw [hprices, hpp, h.price_eq]
  · rw [foldl_add_standing, hsum fun q => q.standing, h.houseStanding_eq, if_neg hne]
    simp only [(h.member_holds _).2.2.2]

/-- POST of a zone with a member that is not OPEN. -/
theorem PostAmounts.posted_vacancy (hvacant : ∃ i, vacant i = true) : HousePosted s g (s.posted g k a) price hb total hs item ∧
    (housesSpill (s.ledgers[(0 : AccountNo)], s.house.fromVacancies) (vacantPostings s.isOpen (s.memberPosting g k a) g.numbered) = true ↔
      goesBeyond s.ledgers[(0 : AccountNo)] g.mode hb price hs ∨ 2 ^ 48 - 1 < item + total) := by
  have hsome : vacantPostings s.isOpen (s.memberPosting g k a) g.numbered ≠ [] := fun hnil => by
    obtain ⟨i, hi⟩ := hvacant
    rw [h.vacantPostings_eq_nil_iff.1 hnil i] at hi
    cases hi
  obtain ⟨p, ps, hv⟩ := List.exists_cons_of_ne_nil hsome
  obtain ⟨hps, hholds⟩ := h.vacancy_holds hne hv
  obtain ⟨hledger, hhouse, hspill⟩ := State.postAll_vacancy (whole := s.wholePosting g) hne h.nonzero h.distinct hv hps rfl
  have hitem : item = s.house.fromVacancies := h.item_eq.trans (if_neg hne)
  have htotal : (ps.foldl Posting.add p).energy.total = total := hholds.total.trans h.total_eq.symm
  rw [htotal, ← hitem] at hledger hhouse
  rw [satAdd_eq_min] at hhouse
  refine ⟨⟨⟨_, _, hholds, overflows_iff .., hledger⟩, fun hnil => absurd hnil hne, fun _ => hhouse⟩, ?_⟩
  rw [hspill, houseSpills, Bool.or_eq_true, htotal, ← hitem, overflows_iff, Ledger.saturates_iff_goesBeyond hholds]

end

/-- The mark of POST: an addition to a member's ledger, to the house's or to the itemisation went beyond its limit (R40). -/
theorem PostAmounts.mark_iff : (s.posted g k a).2 = true ↔
    (∃ i m, g.members[i]? = some m ∧ s.accounts[m.account] = .opened ∧ goesBeyond s.ledgers[m.account] g.mode (e i) price (st i)) ∨
      ((g.members = [] ∨ ∃ i, vacant i = true) ∧ (goesBeyond s.ledgers[(0 : AccountNo)] g.mode hb price hs ∨ 2 ^ 48 - 1 < item + total)) := by
  by_cases hne : g.members = []
  · obtain ⟨-, hmark, -⟩ := h.posted_memberless hne
    refine hmark.trans ((and_iff_right (.inl hne)).symm.trans (or_iff_right ?_).symm)
    rintro ⟨i, m, hm, -⟩
    simp [hne] at hm
  obtain ⟨-, -, hmark⟩ := State.postAll_own (posting := s.memberPosting g k a) (whole := s.wholePosting g) hne h.nonzero h.distinct
  refine hmark.trans (or_congr ?_ ?_)
  · simp only [State.isOpen_iff, Ledger.saturates_iff_goesBeyond (h.member_holds _)]
  · by_cases hvacant : ∃ i, vacant i = true
    · rw [(h.posted_vacancy hne hvacant).2, and_iff_right (.inr hvacant)]
    · have hno : ∀ i, vacant i = false := fun i => Bool.eq_false_iff.2 fun hi => hvacant ⟨i, hi⟩
      rw [h.vacantPostings_eq_nil_iff.2 hno]
      exact iff_of_false nofun fun ⟨hor, _⟩ => hor.elim hne hvacant

/-- What reaches the house, whether by vacant members or by a zone without members. -/
theorem PostAmounts.housePosted (hor : g.members = [] ∨ ∃ i, vacant i = true) : HousePosted s g (s.posted g k a) price hb total hs item := by
  by_cases hne : g.members = []
  · exact (h.posted_memberless hne).1
  · exact (h.posted_vacancy hne (hor.resolve_left hne)).1

/-- Every band of the record holds what reached the house (R40). -/
theorem PostAmounts.houseEnergy_eq (b : BandNo) :
    (if g.members = [] then fun b : BandNo => g.p[b] else s.houseEnergy g (memberEnergy k a)) b = hb b := by
  rw [h.house_eq]
  by_cases hne : g.members = []
  · rw [if_pos hne, if_pos hne]
  · rw [if_neg hne, if_neg hne]
    refine congrArg List.sum (List.map_congr_left fun i hi => ?_)
    have hm := List.getElem?_eq_getElem (List.mem_range.1 hi)
    have hv := h.vacant_iff (i, _) (Gathered.mem_numbered.2 hm)
    rw [hm]
    by_cases ho : s.isOpen (g.members[i]'(List.mem_range.1 hi)).account = true
    · rw [if_neg (mt hv.1 (not_not.2 ho))]
      exact if_pos ho
    · rw [if_pos (hv.2 ho)]
      exact (if_neg ho).trans ((bandwise_get _ b).trans (h.energy_eq i b).symm)

/-- The members' own ledgers and those of the accounts that POST leaves alone (R36). -/
theorem PostAmounts.members_posted :
    (∀ (i : Nat) (m : Snapshot), g.members[i]? = some m → s.accounts[m.account] = .opened →
      (s.posted g k a).1.ledgers[m.account] = s.ledgers[m.account].settled (s.memberPosting g k a i) false g) ∧
    (∀ x : AccountNo, x ≠ 0 → (∀ m ∈ g.members, m.account = x → s.accounts[x] ≠ .opened) → (s.posted g k a).1.ledgers[x] = s.ledgers[x]) ∧
    (g.members ≠ [] → (∀ i, vacant i = false) →
      (s.posted g k a).1.ledgers[(0 : AccountNo)] = s.ledgers[(0 : AccountNo)] ∧ (s.posted g k a).1.house = s.house) := by
  by_cases hne : g.members = []
  · obtain ⟨-, -, hothers⟩ := h.posted_memberless hne
    exact ⟨fun i m hm => by simp [hne] at hm, fun x hx _ => hothers x hx, fun hmem => absurd hne hmem⟩
  · obtain ⟨hown, hothers, -⟩ := State.postAll_own (posting := s.memberPosting g k a) (whole := s.wholePosting g) hne h.nonzero h.distinct
    refine ⟨fun i m hm ho => hown i m hm ((s.isOpen_iff _).2 ho), fun x hx hno => hothers x hx fun m hm hx' => mt (s.isOpen_iff _).1 (hno m hm hx'),
      fun _ hno => State.postAll_noVacancy hne h.nonzero h.distinct (h.vacantPostings_eq_nil_iff.2 hno)⟩

end

/-- Settles O51. -/
theorem post : Obligations.Post := by
  unfold Obligations.Post
  intro s z g f k a e st price vacant hb total hs item hrun hst hz hg hf hk ha hordered hnonzero he hstanding hprice hvacant hhb htotal hhs hitem
  have h : PostAmounts s g k a e st price vacant hb total hs item :=
    ⟨hordered, hnonzero, he, hstanding, hprice, hvacant, hhb, htotal, hhs, hitem⟩
  obtain ⟨x, hx⟩ : ∃ x, x = s.posted g k a := ⟨_, rfl⟩
  obtain ⟨hb', hhb'⟩ : ∃ hb', hb' = if g.members = [] then fun b : BandNo => g.p[b] else s.houseEnergy g (memberEnergy k a) := ⟨_, rfl⟩
  have hposted : (s.postSettlement z g f k a).toStage .release s.sen.scratch =
      (((s.withLedgers x.1.ledgers).withHouse x.1.house).withRecords (s.records.set z (settlementRecord g f k hb' x.2))).withSen
        ⟨.release, some z, s.sen.scratch⟩ := by
    rw [State.toStage_eq (by rw [State.postSettlement_sen]; exact hz)]
    have hframe : x.1 = (s.withLedgers x.1.ledgers).withHouse x.1.house := by
      rw [hx]
      exact s.postAll_frame ..
    rw [← hframe, hx, hhb']
    rfl
  have hmark := h.mark_iff
  obtain ⟨hown, hothers, hnone⟩ := h.members_posted
  have hreached := h.housePosted
  rw [← hx] at hmark hown hothers hnone hreached
  refine ⟨_, settlementRecord g f k hb' x.2, (exec_post hrun hz hg hst hf hk ha).trans (congrArg Host.Outcome.next hposted), rfl,
    rfl, rfl, rfl, rfl, rfl, rfl, rfl, List.isEmpty_iff, ?saturated, fun b => ?bands, fun i m hm ho => ?own, hothers, hnone, fun hor => ?house⟩
  case saturated => exact (Bool.or_eq_true ..).to_iff.trans (or_congr_right hmark)
  case bands =>
    rw [← h.houseEnergy_eq b, ← hhb']
    exact bandwise_get _ b
  case own =>
    obtain ⟨hbands, hmodes, hstand, hcount, hest, hsat, hlife, hlifesat, hnumber, hlast⟩ :=
      Ledger.settled_says (h.member_holds i) s.ledgers[m.account] false g
    rw [← hown i m hm ho] at hbands hmodes hstand hcount hest hsat hlife hlifesat hnumber hlast
    refine ⟨hbands, hmodes, hstand, hcount, hest, hsat.trans ?_, hlifesat, hlife, hnumber, hlast⟩
    simp
  case house =>
    obtain ⟨⟨p, spill, hholds, hspill, hledger⟩, hmemberless, hvacancies⟩ := hreached hor
    obtain ⟨hbands, hmodes, hstand, hcount, hest, hsat, hlife, hlifesat, hnumber, hlast⟩ :=
      Ledger.settled_says hholds s.ledgers[(0 : AccountNo)] spill g
    rw [← hledger] at hbands hmodes hstand hcount hest hsat hlife hlifesat hnumber hlast
    rw [hspill] at hsat
    rw [← htotal] at hlife hlifesat
    exact ⟨hbands, hmodes, hstand, hcount, hest, hsat, hlife, hlifesat, hnumber, hlast, hmemberless, hvacancies⟩

end Sys2Proof.Machine

/-! PROOFS. The supplies, the RESET pin and the starts (R187 to R196). -/

namespace Sys2Proof.Machine

/-! ### The stop of the main domain (R190) -/

theorem State.closeForStop_frame (s : State) : ∃ z c q, s.closeForStop = ((s.withZones z).withChannels c).withQueue q := by
  unfold State.closeForStop
  split
  · exact ⟨s.zones, s.channels, s.queue, rfl⟩
  · exact ⟨_, _, _, s.closeArmed_frame _⟩

/-- The state after a stop: the zones and the queue are those that the bus stop leaves, with a settling zone back at the head. -/
theorem State.stopMain_is (s : State) : ∃ zs q, s.stopMain =
      (((((((s.withZones zs).withChannels s.closeForStop.channels).withQueue q).withSen .cold).withLink s.link.stop).withTcv
        { s.tcv with round := none }).withAbm s.abm.stop).withAtu { s.atu with op := none, handed := none } ∧
    (s.sen.zone = none → zs = s.closeForStop.zones ∧ q = s.closeForStop.queue) ∧
    ∀ z, s.sen.zone = some z → zs = s.closeForStop.zones.set z { s.closeForStop.zones[z] with state := .queued } ∧ q = z :: s.closeForStop.queue := by
  obtain ⟨z', c', q', hclose⟩ := s.closeForStop_frame
  have hsen : s.closeForStop.sen = s.sen := by rw [hclose]; rfl
  cases hz : s.sen.zone with
  | none =>
    refine ⟨s.closeForStop.zones, s.closeForStop.queue, ?_, fun _ => ⟨rfl, rfl⟩, nofun⟩
    have hstop : s.closeForStop.stopSen = s.closeForStop.withSen .cold := by
      unfold State.stopSen
      rw [hsen, hz]
    unfold State.stopMain
    rw [hstop, hclose]
    rfl
  | some z =>
    refine ⟨s.closeForStop.zones.set z { s.closeForStop.zones[z] with state := .queued }, z :: s.closeForStop.queue, ?_, nofun, fun y hy => ?_⟩
    rotate_left
    · obtain rfl := Option.some.inj hy
      exact ⟨rfl, rfl⟩
    have hstop : s.closeForStop.stopSen = ((s.closeForStop.updZone z fun r => { r with state := .queued }).withQueue (z :: s.closeForStop.queue)).withSen .cold := by
      unfold State.stopSen
      rw [hsen, hz]
    unfold State.stopMain
    rw [hstop, hclose]
    rfl

theorem exec_mainSupplyLoss_running {s : State} (hmain : s.ssv.mainPresent = true) (hq : s.ssv.qualifying = false) :
    exec (.mainSupplyLoss true) s = .next s.enterBackup := by
  refine congrArg Host.Outcome.next ?_
  rw [hmain, hq]
  rfl

theorem exec_resetAssert {s : State} (h : s.ssv.resetAsserted = false) :
    exec .resetAssert s = .next (s.holdReset.updSsv fun v => { v with resetAsserted := true }) := by
  refine congrArg Host.Outcome.next ?_
  rw [h]
  rfl

/-- Settles O53. -/
theorem mainDomainStops : Obligations.MainDomainStops := by
  unfold Obligations.MainDomainStops
  intro i s v fl hrun hmain hq hi
  obtain ⟨zs, q, hstop, hidle, hsettling⟩ := s.stopMain_is
  have hbeside := s.stopMain_beside.1
  have hstopped : ∃ t, exec i s = .next t ∧ t = (s.stopMain.withSsv v).withLink { s.link with receiver := .discard, burst := false, flags := fl } := by
    rcases hi with ⟨rfl, rfl, rfl⟩ | ⟨rfl, hreset, rfl, rfl⟩
    · refine ⟨_, exec_mainSupplyLoss_running hmain hq, ?_⟩
      unfold State.enterBackup
      rw [hstop]
      rfl
    · refine ⟨_, exec_resetAssert hreset, ?_⟩
      have hold : s.holdReset = s.stopMain.updSsv fun v => { v with domain := .held } := by
        unfold State.holdReset
        rw [show s.ssv.domain = .running from beq_iff_eq.1 hrun]
      rw [hold, hstop]
      rfl
  obtain ⟨t, hexec, ht⟩ := hstopped
  have hzones : t.zones = zs := by rw [ht, hstop]; rfl
  have hqueue : t.queue = q := by rw [ht, hstop]; rfl
  refine ⟨t, s.closeForStop, hexec, by rw [ht]; rfl, by rw [ht, ← hbeside]; rfl, by rw [ht]; rfl, by rw [ht, hstop]; rfl, by rw [ht, hstop]; rfl,
    by rw [ht, hstop]; rfl, by rw [ht, hstop]; rfl, fun hoff => if_pos hoff, fun hon => ?_, by rw [ht, hstop]; rfl, fun hz => ?_, fun z hz => ?_⟩
  · rw [State.closeForStop, if_neg hon]
    exact s.closeArmed_closes .busStop
  · rw [hzones, hqueue]
    exact hidle hz
  · rw [hzones, hqueue]
    exact hsettling z hz

/-! ### The supplies and the pin where no block stops or starts (R191 to R195) -/

theorem Link.stop_of_stopped {l : Link} (hr : l.receiver = .discard) (hb : l.burst = false) : l.stop = l := by
  unfold Link.stop
  rw [← hr, ← hb]

theorem Abm.stop_of_stopped {a : Abm} (hb : a.bus ≠ .stopping) (hc : a.cycle = none) (hact : a.activity = .none) (hs : a.sweep = ⟨false, []⟩) :
    a.stop = a := by
  have hactive : a.sweep.active = false := by rw [hs]
  unfold Abm.stop
  rw [if_neg hb, hactive, Bool.or_false, ← hc, ← hact, ← hs]

theorem Atu.stop_of_stopped {u : Atu} (ho : u.op = none) (hh : u.handed = none) : { u with op := none, handed := none } = u := by
  rw [← ho, ← hh]

theorem Tcv.stop_of_stopped {c : Tcv} (h : c.round = none) : { c with round := none } = c := by rw [← h]

/-- A main domain that has stopped has nothing more to discard. -/
theorem State.stopMain_of_stopped {s : State} (hd : s.ssv.domain ≠ .running) (hquiet : s.Quiescent) (hbus : s.BusSound) : s.stopMain = s := by
  obtain ⟨hreceiver, hburst, hround, hcycle, hact, hsweep, hop, hhanded, hsen⟩ := hquiet hd
  obtain ⟨-, -, -, -, -, -, hstopped⟩ := hbus
  obtain ⟨hstopping, hunarmed⟩ := hstopped hd
  have hclose : s.closeForStop = s := by
    unfold State.closeForStop
    rw [State.closeArmed_of_none s _ hunarmed, ite_self]
  have hsen' : s.stopSen = s := by
    unfold State.stopSen
    rw [show s.sen.zone = none from by rw [hsen]; rfl, ← hsen]
    rfl
  unfold State.stopMain
  rw [hclose, hsen']
  show (((s.withLink s.link.stop).withTcv { s.tcv with round := none }).withAbm s.abm.stop).withAtu { s.atu with op := none, handed := none } = s
  rw [Link.stop_of_stopped hreceiver hburst, Abm.stop_of_stopped hstopping hcycle hact hsweep, Tcv.stop_of_stopped hround, Atu.stop_of_stopped hop hhanded]
  rfl

/-- Settles O54. -/
theorem supplyEvents : Obligations.SupplyEvents := by
  unfold Obligations.SupplyEvents
  refine fun s => ⟨fun usable hmain => ?_, fun hmain hq => ?_, fun hmain hq hd hquiet hbus => ?_, fun hmain => ⟨s.losePower, ?_, s.stopMain_beside.1, ?_⟩,
    fun hmain => ?_, fun hmain => ⟨?_, ?_⟩, fun hmain => ?_, fun hq hmain hreset => ?_, fun hd hreset => ?_, fun hd hreset => ?_, fun hd hreset => ?_⟩
  · exact congrArg Host.Outcome.next (by rw [hmain]; rfl)
  · exact congrArg Host.Outcome.next (by rw [hmain, hq]; rfl)
  · have hstopped : s.ssv.domain ≠ .running := by rcases hd with hd | hd <;> rw [hd] <;> nofun
    rw [exec_mainSupplyLoss_running hmain hq]
    unfold State.enterBackup
    rw [State.stopMain_of_stopped hstopped hquiet hbus]
    rfl
  · exact congrArg Host.Outcome.next (by rw [hmain]; rfl)
  · unfold State.losePower State.updSsv
    rw [s.stopMain_beside.2]
    rfl
  · exact congrArg Host.Outcome.next (if_neg (by rw [hmain]; nofun))
  · exact congrArg Host.Outcome.next (if_pos hmain)
  · exact congrArg Host.Outcome.next (if_pos hmain)
  · exact congrArg Host.Outcome.next (if_neg (by rw [hmain]; nofun))
  · refine congrArg Host.Outcome.next ((if_pos (by rw [hq, hmain]; rfl)).trans ?_)
    exact if_pos hreset
  · have hold : s.holdReset = s := by
      unfold State.holdReset
      rw [hd]
    rw [exec_resetAssert hreset, hold]
    rfl
  · have hold : s.holdReset = s.updSsv fun v => { v with domain := .held, markerValid := false } := by
      unfold State.holdReset
      rw [hd]
    rw [exec_resetAssert hreset, hold]
    rfl
  · refine congrArg Host.Outcome.next ((if_pos hreset).trans ?_)
    exact if_neg (by rw [State.updSsv, State.withSsv_ssv, hd]; nofun)

end Sys2Proof.Machine

/-! PROOFS. The starts (R187, R192 to R194, R196). -/

namespace Sys2Proof.Machine

/-- LINK after a warm start, with SWEEP_DONE set when a sweep was lost (R147, R187). -/
def State.warmLink (s : State) : Link :=
  { s.link with
    receiver := .discard, burst := false, lastStart := .warm, startCount := min (s.link.startCount + 1) 65535
    flags := { s.link.flags with supplyMain := true, sweepDone := s.link.flags.sweepDone || s.abm.sweepLost } }

/-- The bus master as a warm start finds it: at rotation position 0, with a lost sweep recorded (R147). -/
def Abm.warmed (a : Abm) : Abm :=
  { a with rotation := 0, lastSweep := if a.sweepLost then .abortedStop else a.lastSweep, sweepLost := false }

/-- The state of a warm start before the bus begins a cycle. -/
def State.warming (s : State) : State :=
  (((s.withSsv { s.ssv with domain := .running }).withTcv s.beginRound.tcv).withAbm s.abm.warmed).withLink s.warmLink

theorem State.recordLostSweep_eq (s : State) : (s.withLink s.link.warm).recordLostSweep.withRotation 0 = (s.withAbm s.abm.warmed).withLink s.warmLink := by
  have hcount : satAdd 65535 s.link.startCount 1 = min (s.link.startCount + 1) 65535 := satAdd_eq_min ..
  unfold State.recordLostSweep State.warmLink Abm.warmed
  rw [State.withLink_abm, ← hcount]
  by_cases hlost : s.abm.sweepLost = true
  · rw [if_pos hlost, if_pos hlost, hlost, Bool.or_true]
    rfl
  · have habm : ({ s.abm with rotation := 0, lastSweep := s.abm.lastSweep, sweepLost := false } : Abm) = { s.abm with rotation := 0 } := by
      rw [← Bool.eq_false_iff.2 hlost]
    rw [if_neg hlost, if_neg hlost, habm, Bool.eq_false_iff.2 hlost, Bool.or_false]
    rfl

theorem State.beginRound_withSsv (s : State) (v : Ssv) : (s.withSsv v).beginRound.tcv = s.beginRound.tcv := by
  unfold State.beginRound
  rw [apply_ite State.tcv, apply_ite State.tcv]
  rfl

theorem State.warmStart_eq (s : State) : s.warmStart = if s.abm.bus = .running then s.warming.beginCycle else s.warming := by
  obtain ⟨v, hv⟩ : ∃ v, v = (s.withSsv { s.ssv with domain := .running }).withTcv s.beginRound.tcv := ⟨_, rfl⟩
  have hround : ((s.withSsv { s.ssv with domain := .running }).withLink s.link.warm).beginRound = v.withLink s.link.warm := by
    rw [State.beginRound_withLink, State.beginRound_frame, State.beginRound_withSsv, hv]
  have hwarming : (v.withLink s.link.warm).recordLostSweep.withRotation 0 = s.warming := by
    have h := v.recordLostSweep_eq
    rw [hv] at h ⊢
    exact h
  show (((s.withSsv { s.ssv with domain := .running }).withLink s.link.warm).beginRound).warmBus = _
  rw [hround]
  unfold State.warmBus
  rw [hwarming]
  rfl

/-- Both ways to a start: the supervisor has changed, and the marker decides. -/
theorem exec_start {i : Instr} {s : State} {v : Ssv}
    (h : (i = .qualificationComplete ∧ s.ssv.qualifying = true ∧ s.ssv.mainPresent = true ∧ s.ssv.resetAsserted = false ∧
        v = { s.ssv with qualifying := false, supply := .main, powered := true }) ∨
      (i = .resetRelease ∧ s.ssv.resetAsserted = true ∧ s.ssv.domain = .held ∧ v = { s.ssv with resetAsserted := false })) :
    exec i s = .next (s.withSsv v).start := by
  rcases h with ⟨rfl, hq, hmain, hreset, rfl⟩ | ⟨rfl, hreset, hheld, rfl⟩
  · refine congrArg Host.Outcome.next ((if_pos (by rw [hq, hmain]; rfl)).trans ?_)
    exact if_neg (by rw [State.updSsv, State.withSsv_ssv, hreset]; nofun)
  · refine congrArg Host.Outcome.next ((if_pos hreset).trans ?_)
    exact if_pos hheld

/-- Settles O55. -/
theorem starts : Obligations.Starts := by
  unfold Obligations.Starts
  intro i s v hi
  have hexec := exec_start hi
  have hmarker : v.markerValid = s.ssv.markerValid := by
    rcases hi with ⟨-, -, -, -, rfl⟩ | ⟨-, -, -, rfl⟩
    all_goals rfl
  refine ⟨fun hcold => ?cold, fun hwarm hcycle => ?warm⟩
  case cold => exact hexec.trans (congrArg Host.Outcome.next (if_neg (by rw [State.withSsv_ssv, hmarker, hcold]; nofun)))
  case warm =>
    obtain ⟨t, ht⟩ : ∃ t, t = (s.withSsv v).warmStart := ⟨_, rfl⟩
    have hstart : (s.withSsv v).start = t := (if_pos (by rw [State.withSsv_ssv, hmarker, hwarm])).trans ht.symm
    obtain ⟨w, hw⟩ : ∃ w, w = (s.withSsv v).warming := ⟨_, rfl⟩
    rw [State.warmStart_eq, ← hw] at ht
    have hbegins : s.abm.bus = .running → cycleBegins w t ∧ t.link = w.link ∧ t.abm.rotation = w.abm.rotation ∧ t.abm.totals = w.abm.totals := by
      intro hrunning
      rw [if_pos (show (s.withSsv v).abm.bus = .running from hrunning)] at ht
      rw [ht]
      exact State.beginCycle_of_none (by rw [hw]; exact hcycle)
    have hstays : s.abm.bus ≠ .running → t = w := fun hno => ht.trans (if_neg hno)
    have hframe : t.besideBus = w.besideBus ∧ t.nodes = w.nodes ∧ t.atu = w.atu ∧ t.freeUses = w.freeUses ∧ t.link = w.link := by
      by_cases hrunning : s.abm.bus = .running
      · obtain ⟨⟨-, hbeside, hnodes, hatu, hfree, -⟩, hlink, -⟩ := hbegins hrunning
        exact ⟨hbeside, hnodes, hatu, hfree, hlink⟩
      · rw [hstays hrunning]
        exact ⟨rfl, rfl, rfl, rfl, rfl⟩
    obtain ⟨hbeside, hnodes, hatu, hfree, hlink⟩ := hframe
    obtain ⟨hssv, haccounts, hprices, hband, hrecords, hsen, hledgers, hhouse, hinputs, htcv, hpoints, hpending⟩ :
        t.ssv = w.ssv ∧ t.accounts = w.accounts ∧ t.prices = w.prices ∧ t.band = w.band ∧ t.records = w.records ∧ t.sen = w.sen ∧
          t.ledgers = w.ledgers ∧ t.house = w.house ∧ t.inputs = w.inputs ∧ t.tcv = w.tcv ∧ t.points = w.points ∧ t.pending = w.pending := by
      simpa [State.besideBus] using hbeside
    refine ⟨t, hexec.trans (congrArg Host.Outcome.next hstart), ?_, ?_, ?_, ?_, ?_, fun hdisabled => ?_, fun scan ⟨c, hc⟩ hscan => ?_,
      fun a ha => ⟨fun hbus => ?_, fun hbus => ?_⟩⟩
    · rw [hssv, hw]
      rfl
    · unfold State.besideSupply
      rw [haccounts, hprices, hband, hrecords, hledgers, hhouse, hinputs, hnodes, hpoints, hfree, hpending, hw]
      rfl
    · rw [hsen, hw]
      rfl
    · rw [hatu, hw]
      rfl
    · rw [hlink, hw]
      rfl
    · rw [htcv, hw]
      exact congrArg State.tcv (State.beginRound_empty (s := s.withSsv v) hdisabled)
    · rw [htcv, hw]
      exact congrArg State.tcv (State.beginRound_next (s := s.withSsv v) hc hscan)
    · rw [hstays hbus, hw, ha]
      exact ⟨rfl, rfl, rfl, rfl⟩
    · obtain ⟨hcycleBegins, -, hrotation, htotals⟩ := hbegins hbus
      refine ⟨by rw [hrotation, hw]; rfl, by rw [htotals, hw]; rfl, ?_⟩
      have hsame : w = (((s.withSsv t.ssv).withTcv t.tcv).withAbm a).withLink (s.withSsv v).warmLink := by
        rw [hssv, htcv, hw, ha]
        rfl
      rw [hsame] at hcycleBegins
      exact hcycleBegins

end Sys2Proof.Machine

/-! SUPPORT. The bytes of the two lines: parity, and frames of the nodes read back (R118, R119, R199). -/

namespace Sys2Proof.Machine

/-! ### Parity (R118) -/

theorem foldl_xor_toNat (l : List Bool) (a : Bool) : (l.foldl xor a).toNat = (a.toNat + l.count true) % 2 := by
  induction l generalizing a with
  | nil => cases a <;> rfl
  | cons b l ih =>
    rw [List.foldl_cons, ih]
    cases a <;> cases b <;> simp <;> omega

/-- Data bits and parity bit hold an even number of ones. -/
theorem evenParity_even (b : Byte) : ([b[0], b[1], b[2], b[3], b[4], b[5], b[6], b[7], evenParity b].count true) % 2 = 0 := by
  have h := foldl_xor_toNat [b[1], b[2], b[3], b[4], b[5], b[6], b[7], evenParity b] b[0]
  have hself : [b[1], b[2], b[3], b[4], b[5], b[6], b[7], evenParity b].foldl xor b[0] = (evenParity b ^^ evenParity b) := rfl
  rw [hself, Bool.xor_self] at h
  rw [List.count_cons]
  cases hb : b[0] <;> rw [hb] at h <;> simp at h ⊢ <;> omega

/-! ### A frame of a node, sound and damaged (R119) -/

section
variable {wire : Byte → BusByte} (hw : ∀ b, wire b = ⟨b, evenParity b, true⟩)
include hw

/-- The body of a frame as it was sent. -/
theorem busBody_busFrame {body : List Byte} {n : Nat} (command : Byte) (hn : body.length = n) :
    busBody command n ((busFrame command body).map wire) = some body := by
  subst hn
  have hdata : ((busFrame command body).map wire).map (·.data) = busFrame command body := by
    rw [List.map_map]
    exact (List.map_congr_left fun b _ => congrArg BusByte.data (hw b)).trans (List.map_id _)
  have hsound : ((busFrame command body).map wire).all BusByte.sound = true := by
    rw [List.all_eq_true]
    intro c hc
    obtain ⟨b, -, rfl⟩ := List.mem_map.1 hc
    rw [hw, BusByte.sound, beq_self_eq_true]
    rfl
  unfold busBody
  rw [hdata, hsound]
  unfold busFrame
  simp

end

/-- A byte with a wrong parity or stop bit damages the frame. -/
theorem busBody_damaged {frame : List BusByte} {c : BusByte} (command : Byte) (n : Nat) (hc : c ∈ frame) (hs : c.sound = false) :
    busBody command n frame = none := by
  have hsound : frame.all BusByte.sound = false := by
    rw [List.all_eq_false]
    exact ⟨c, hc, by rw [hs]; nofun⟩
  unfold busBody
  rw [hsound]
  split
  · simp
  · rfl

theorem readingOf_of_body_none {frame : List BusByte} (h : busBody 0x82#8 10 frame = none) : readingOf frame = none := by
  unfold readingOf
  rw [h] <;> rfl

/-! ### The fields of READING, HERE and ENROLLED (R199) -/

theorem zoneOf_ofNat (z : ZoneNo) : zoneOf (BitVec.ofNat 8 z.val) = some z :=
  zoneOf_eq_some (by rw [BitVec.toNat_ofNat]; omega)

theorem kindOf_code {k : Byte} {kind : NodeKind} (h : (k = 0#8 ∧ kind = .allocator) ∨ (k = 1#8 ∧ kind = .fancoil) ∨ (k = 2#8 ∧ kind = .submeter)) :
    kindOf k = some kind := by
  rcases h with ⟨rfl, rfl⟩ | ⟨rfl, rfl⟩ | ⟨rfl, rfl⟩
  all_goals rfl

theorem readingStatusOf_code {st : Byte} {status : ReadingStatus}
    (h : (st = 0#8 ∧ status = .ok) ∨ (st = 1#8 ∧ status = .tamper) ∨ (st = 2#8 ∧ status = .busy)) : readingStatusOf st = some status := by
  rcases h with ⟨rfl, rfl⟩ | ⟨rfl, rfl⟩ | ⟨rfl, rfl⟩
  all_goals rfl

theorem toggleByte (tg : Bool) : (if tg then 1#8 else 0#8)[0] = tg := by cases tg <;> rfl

section
variable {frame : List BusByte} (x : Serial) (z : ZoneNo) {k st : Byte} {kind : NodeKind} {status : ReadingStatus}

theorem readingOf_body (tg : Bool) (units : Word16) (hk : kindOf k = some kind) (hst : readingStatusOf st = some status)
    (h : busBody 0x82#8 10 frame = some (bytes32 x ++ [if tg then 1#8 else 0#8, BitVec.ofNat 8 z.val, k] ++ bytes16 units ++ [st])) :
    readingOf frame = some ⟨x, tg, z, kind, units.toNat, status⟩ := by
  have hread : readingOf frame = (zoneOf (BitVec.ofNat 8 z.val)).bind fun zone => (kindOf k).bind fun kind => (readingStatusOf st).bind fun status =>
      some ⟨le32 (x.extractLsb' 0 8) (x.extractLsb' 8 8) (x.extractLsb' 16 8) (x.extractLsb' 24 8), (if tg then 1#8 else 0#8)[0], zone, kind,
        (le16 (units.extractLsb' 0 8) (units.extractLsb' 8 8)).toNat, status⟩ := by
    unfold readingOf
    rw [h]
    rfl
  rw [hread, zoneOf_ofNat, hk, hst, le32_bytes, le16_bytes, toggleByte]
  rfl

theorem hereOf_body (hk : kindOf k = some kind) (h : busBody 0x83#8 6 frame = some (bytes32 x ++ [BitVec.ofNat 8 z.val, k])) :
    hereOf frame = some ⟨x, z, kind⟩ := by
  have hread : hereOf frame = (zoneOf (BitVec.ofNat 8 z.val)).bind fun zone => (kindOf k).bind fun kind =>
      some ⟨le32 (x.extractLsb' 0 8) (x.extractLsb' 8 8) (x.extractLsb' 16 8) (x.extractLsb' 24 8), zone, kind⟩ := by
    unfold hereOf
    rw [h]
    rfl
  rw [hread, zoneOf_ofNat, hk, le32_bytes]
  rfl

theorem enrolledOf_body (h : busBody 0x84#8 4 frame = some (bytes32 x)) : enrolledOf frame = some x := by
  have hread : enrolledOf frame = some (le32 (x.extractLsb' 0 8) (x.extractLsb' 8 8) (x.extractLsb' 16 8) (x.extractLsb' 24 8)) := by
    unfold enrolledOf
    rw [h]
    rfl
  rw [hread, le32_bytes]

end

end Sys2Proof.Machine

/-! SUPPORT. The bytes of the tabled replies and the flag word (R176, R198, R200, sections 11.4 and 11.5). -/

namespace Sys2Proof.Machine

/-! ### Fields -/

theorem length_leBytes (w n : Nat) : (leBytes w n).length = w := by
  induction w generalizing n with
  | zero => rfl
  | succ w ih => rw [leBytes, List.length_cons, ih]

theorem leBytes_eq_map (w n : Nat) : leBytes w n = (List.range w).map fun i => BitVec.ofNat 8 (n / 256 ^ i) := by
  induction w generalizing n with
  | zero => rfl
  | succ w ih =>
    rw [leBytes, ih, List.range_succ_eq_map, List.map_cons, List.map_map, Nat.pow_zero, Nat.div_one]
    refine congrArg _ (List.map_congr_left fun i _ => ?_)
    rw [Nat.div_div_eq_div_mul, Function.comp, Nat.pow_succ']

theorem bandBytes_eq {α : Type} (f : α → List Byte) (v : Bands α) : bandBytes f v = (List.finRange 4).flatMap fun b => f v[b] := by
  have hall : List.finRange 4 = [0, 1, 2, 3] := by decide
  rw [hall]
  simp [bandBytes]

theorem modeBytes_bandBytes_eq (w : Nat) (v : ByMode (Bands Nat)) : modeBytes (bandBytes (leBytes w)) v =
    ((List.finRange 4).flatMap fun b => leBytes w v.heating[b]) ++ (List.finRange 4).flatMap fun b => leBytes w v.cooling[b] := by
  rw [modeBytes, bandBytes_eq, bandBytes_eq]

theorem length_bandBytes {α : Type} {f : α → List Byte} {w : Nat} (hf : ∀ x, (f x).length = w) (v : Bands α) : (bandBytes f v).length = 4 * w := by
  simp only [bandBytes, List.length_append, hf]
  omega

theorem length_modeBytes {α : Type} {f : α → List Byte} {w : Nat} (hf : ∀ x, (f x).length = w) (v : ByMode α) : (modeBytes f v).length = 2 * w := by
  simp only [modeBytes, List.length_append, hf]
  omega

theorem length_bytes16 (w : Word16) : (bytes16 w).length = 2 := rfl

theorem length_code (n : Nat) : (code n).length = 1 := rfl

/-! ### Marks in one byte -/

theorem bits_lt (l : List Bool) : bits l < 2 ^ l.length := by
  induction l with
  | nil => exact Nat.one_pos
  | cons b l ih =>
    rw [bits, List.length_cons, Nat.pow_succ]
    have := b.toNat_lt
    omega

theorem testBit_bits (l : List Bool) (i : Nat) : (bits l).testBit i = l.getD i false := by
  induction l generalizing i with
  | nil => simp [bits]
  | cons b l ih =>
    cases i with
    | zero => cases b <;> simp [bits, Nat.testBit_zero]
    | succ i =>
      have hhalf : bits (b :: l) / 2 = bits l := by
        rw [bits]
        have := b.toNat_lt
        omega
      rw [Nat.testBit_succ, hhalf, ih, List.getD_cons_succ]

/-- The byte of a list of marks holds them, the first at bit 0. -/
theorem getElem_ofNat_bits (l : List Bool) (i : Nat) (hi : i < 8) : (BitVec.ofNat 8 (bits l))[i] = l.getD i false := by
  rw [BitVec.getElem_eq_testBit_toNat, BitVec.toNat_ofNat, Nat.testBit_mod_two_pow, decide_eq_true hi, Bool.true_and, testBit_bits]

theorem toNat_ofNat_bits (l : List Bool) : (BitVec.ofNat 8 (bits l)).toNat < 2 ^ l.length := by
  rw [BitVec.toNat_ofNat]
  exact (Nat.mod_le _ _).trans_lt (bits_lt l)

/-! ### The flag word (R198) -/

theorem getElem_flagBit (b : Bool) (i : Nat) {j : Nat} (hj : j < 16) : (flagBit b i)[j] = (b && decide (i = j)) := by
  cases b with
  | false => simp [flagBit]
  | true =>
    rw [flagBit, if_pos rfl, ← BitVec.twoPow_eq, BitVec.getElem_twoPow]
    simp [eq_comm]

theorem EventFlags.getElem_word (f : EventFlags) {j : Nat} (hj : j < 16) : f.word[j] =
    [f.settled != 0, f.channelFault, f.overspeed, f.nodeSilent, f.nodeHalted, f.nodeTableFull, f.sweepDone, f.cycleOverrun, f.supplyBackup,
      f.supplyMain, f.coldStart, f.linkOverrun].getD j false := by
  unfold EventFlags.word
  simp only [BitVec.getElem_or, getElem_flagBit]
  interval_cases j
  all_goals simp

/-! ### The tabled bodies (sections 11.4, 11.5) -/

/-- The flags byte of a statement. -/
def Statement.flags (x : Statement) : Byte :=
  BitVec.ofNat 8 (bits [x.pending, x.unbilled.estimated, x.unbilled.saturated, x.lifetime.saturated.heating, x.lifetime.saturated.cooling])

theorem Statement.bytes_eq (x : Statement) : x.bytes =
    leBytes 1 x.account.val ++ leBytes 1 x.accountState.code ++ leBytes 1 x.kind.code ++ bytes16 x.number ++ [x.flags] ++
    leBytes 2 x.unbilled.count ++
    ((List.finRange 4).flatMap fun b => leBytes 5 x.unbilled.energy.heating[b]) ++
    ((List.finRange 4).flatMap fun b => leBytes 5 x.unbilled.energy.cooling[b]) ++
    ((List.finRange 4).flatMap fun b => leBytes 8 x.unbilled.cost.heating[b]) ++
    ((List.finRange 4).flatMap fun b => leBytes 8 x.unbilled.cost.cooling[b]) ++
    leBytes 8 x.unbilled.standing ++ leBytes 6 x.lifetime.energy.heating ++ leBytes 6 x.lifetime.energy.cooling ++
    leBytes 6 x.house.fromVacancies ++ leBytes 6 x.house.fromMemberless := by
  unfold Statement.bytes
  rw [modeBytes_bandBytes_eq, modeBytes_bandBytes_eq]
  simp only [List.append_assoc, modeBytes]
  rfl

theorem Statement.length_bytes (x : Statement) : x.bytes.length = 144 := by
  unfold Statement.bytes
  simp only [List.length_append, length_code, length_bytes16, length_leBytes, length_modeBytes (length_bandBytes (length_leBytes _)),
    length_modeBytes (length_leBytes _)]

/-- The flags byte of a settlement record. -/
def SettlementRecord.flags (r : SettlementRecord) : Byte := BitVec.ofNat 8 (bits [r.allArea, r.noMembers, r.saturated, r.standing.isSome])

theorem BandRecord.length_bytes (b : BandRecord) : b.bytes.length = 30 := by
  simp only [BandRecord.bytes, List.length_append, length_leBytes]

theorem SettlementReply.bytes_eq (x : SettlementReply) : x.bytes =
    leBytes 1 x.zone.val ++ leBytes 1 x.state.code ++ bytes16 x.number ++ leBytes 1 x.queueLength ++
    leBytes 1 (x.position.getD 0xFF) ++ leBytes 1 (stageByte x.stage) ++ bytes16 x.record.number ++ leBytes 1 x.record.cause.code ++
    bytes16 x.record.cycle ++
    ((List.finRange 4).flatMap fun b => leBytes 6 x.record.bands[b].p ++ leBytes 6 x.record.bands[b].f ++
      leBytes 6 x.record.bands[b].c ++ leBytes 6 x.record.bands[b].unattributed ++ leBytes 6 x.record.bands[b].house) ++
    leBytes 6 x.record.estimated ++ leBytes 5 (x.record.standing.getD 0) ++ leBytes 1 x.record.memberCount ++ [x.record.flags] := by
  unfold SettlementReply.bytes SettlementRecord.bytes
  rw [bandBytes_eq]
  simp only [List.append_assoc]
  rfl

theorem SettlementReply.length_bytes (x : SettlementReply) : x.bytes.length = 145 := by
  unfold SettlementReply.bytes SettlementRecord.bytes
  simp only [List.length_append, length_code, length_bytes16, length_leBytes, length_bandBytes BandRecord.length_bytes]

end Sys2Proof.Machine

/-! PROOFS. The bytes of the two lines, the transmit pins and the tabled replies (R118, R119, R170, R171, R176, R197 to R200). -/

namespace Sys2Proof.Machine

/-! ### The frames of the nodes (R119, R199) -/

/-- A frame with one byte whose parity or stop bit is wrong is no READING. -/
theorem readingOf_damaged (pre post : List BusByte) {c : BusByte} (hc : c.sound = false) : readingOf (pre ++ c :: post) = none :=
  readingOf_of_body_none (busBody_damaged _ _ (by simp) hc)

theorem BusByte.not_sound_of_parity (b : Byte) : BusByte.sound ⟨b, !(evenParity b), true⟩ = false := by
  rw [BusByte.sound]
  cases evenParity b <;> rfl

theorem BusByte.not_sound_of_stop (b : Byte) (p : Bool) : BusByte.sound ⟨b, p, false⟩ = false := rfl

/-! ### The frames of the ABM, and the driver (R118) -/

theorem State.driverEnabled_of_frame {s : State} {f : List Byte} (hrun : s.mainRuns = true) (hbus : s.abm.bus ≠ .off) (hf : s.busFrame? = some f)
    (t : Nat) : s.driverEnabled t = decide (t < 11 * f.length) := by
  have hlevels : s.busLevels = f.flatMap busBits := by
    unfold State.busLevels
    rw [hrun, bne_iff_ne.2 hbus, hf]
    rfl
  rw [State.driverEnabled, hlevels, length_flatMap_busBits]

theorem State.driverEnabled_of_no_frame {s : State} (h : s.busFrame? = none) (t : Nat) : s.driverEnabled t = false := by
  have hlevels : s.busLevels = [] := by
    unfold State.busLevels
    rw [h]
    exact ite_self _
  rw [State.driverEnabled, hlevels]
  rfl

theorem State.busFrame?_beacon {s : State} (h : s.abm.activity = .beacon) : s.busFrame? = some (busFrame 0x01#8 (bytes16 s.abm.cycleNumber)) := by
  rw [State.busFrame?, h]

theorem State.busFrame?_attempt {s : State} {tr : Transaction} {n : Nat} (h : s.abm.activity = .attempt tr n none) : s.busFrame? = some tr.frame := by
  rw [State.busFrame?, h]

theorem State.busFrame?_none {s : State} {tr : Transaction} {n : Nat} {y : AttemptReply} {g : Range} {x : Serial}
    (h : s.abm.activity = .none ∨ s.abm.activity = .learning g x ∨ s.abm.activity = .attempt tr n (some y)) : s.busFrame? = none := by
  rcases h with h | h | h
  all_goals rw [State.busFrame?, h]

/-- The check value of the CRC (R197). -/
theorem crc16_check : crc16 [0x31, 0x32, 0x33, 0x34, 0x35, 0x36, 0x37, 0x38, 0x39] = 0x29B1#16 := by decide +kernel

/-- Settles O38. -/
theorem frames : Obligations.Frames := by
  unfold Obligations.Frames
  refine ⟨crc16_check, rfl, evenParity_even, fun b => ⟨rfl, rfl⟩, ?nodes, fun x e r => ⟨rfl, rfl, rfl⟩, fun s t hrun hbus => ⟨fun hact => ?beacon, fun x e r n => ?attempts⟩,
    fun s t => ⟨State.busTransmit_released, State.driverEnabled_stopped t, fun tr n y g x h => State.driverEnabled_of_no_frame (State.busFrame?_none h) t,
      State.hostTransmit_idle t⟩,
    fun s k i b hrun => ⟨fun f hbus hf hk hi => State.busTransmit_frame hrun hbus hf hk hi, fun r hr hk hi => State.hostTransmit_frame hrun hr hk hi⟩,
    leBytes_eq_map, fun f => ?word, rfl, rfl, rfl, rfl, rfl, fun _ _ _ => rfl, fun _ => rfl, fun _ _ => rfl, fun x => ?statement, fun x => ?settlement⟩
  case nodes =>
    rintro x tg z units k st kind status body wire hw hk hst rfl
    refine ⟨rfl, readingOf_body x z tg units (kindOf_code hk) (readingStatusOf_code hst) (busBody_busFrame hw _ rfl),
      hereOf_body x z (kindOf_code hk) (busBody_busFrame hw _ rfl), enrolledOf_body x (busBody_busFrame hw _ rfl), fun pre b post _ => ⟨?_, ?_⟩⟩
    · exact readingOf_damaged _ _ (BusByte.not_sound_of_parity b)
    · exact readingOf_damaged _ _ (BusByte.not_sound_of_stop b _)
  case beacon =>
    have hf := State.busFrame?_beacon hact
    exact ⟨hf, State.driverEnabled_of_frame hrun hbus hf t⟩
  case attempts =>
    exact ⟨fun h => State.driverEnabled_of_frame hrun hbus (State.busFrame?_attempt h) t,
      fun h => State.driverEnabled_of_frame hrun hbus (State.busFrame?_attempt h) t,
      fun h => State.driverEnabled_of_frame hrun hbus (State.busFrame?_attempt h) t⟩
  case word =>
    exact ⟨f.getElem_word _, f.getElem_word _, f.getElem_word _, f.getElem_word _, f.getElem_word _, f.getElem_word _, f.getElem_word _, f.getElem_word _,
      f.getElem_word _, f.getElem_word _, f.getElem_word _, f.getElem_word _, f.getElem_word _, f.getElem_word _, f.getElem_word _, f.getElem_word _⟩
  case statement =>
    have hmark (i : Nat) (hi : i < 8) : x.flags[i] = _ := getElem_ofNat_bits _ i hi
    exact ⟨x.length_bytes, x.flags, hmark 0 _, hmark 1 _, hmark 2 _, hmark 3 _, hmark 4 _, toNat_ofNat_bits _, x.bytes_eq⟩
  case settlement =>
    have hmark (i : Nat) (hi : i < 8) : x.record.flags[i] = _ := getElem_ofNat_bits _ i hi
    refine ⟨x.length_bytes, x.record.flags, stageByte x.stage, hmark 0 _, hmark 1 _, hmark 2 _, hmark 3 _, toNat_ofNat_bits _, ?_, ?_, ?_, ?_, ?_, ?_, ?_, ?_,
      x.bytes_eq⟩
    all_goals
      intro h
      rw [h] <;> rfl

end Sys2Proof.Machine
